-- ==== Sys2Proof/Word.lean ====
section
/-! DEFINITION. The two word types of the 6502 core (00_scope.md R6, R9): bytes and 16-bit addresses. -/

namespace Sys2Proof

/-- `u8` of R9: A, X, Y, SP, the status byte and every bus transfer. -/
abbrev Byte := BitVec 8

/-- `u16` of R9: the program counter and every bus address. -/
abbrev Addr := BitVec 16

end Sys2Proof
end

