-- ==== Sys2Proof/Machine/Bits.lean ====
section
/-! DEFINITION. The bit-field, extension and byte-order helpers of 00_scope.md R9. -/

namespace Sys2Proof.Machine

/-- `lo(a) = a[7:0]` (R9). -/
def lo (a : Addr) : Byte := a.extractLsb' 0 8

/-- `hi(a) = a[15:8]` (R9). -/
def hi (a : Addr) : Byte := a.extractLsb' 8 8

/-- `a16(l, h) = h * 256 + l` (R9): the low byte first. -/
def a16 (l h : Byte) : Addr := h ++ l

/-- `zext_16(b)` (R9): an address in page 0. -/
def zext16 (b : Byte) : Addr := b.setWidth 16

/-- `sext_16(b)` (R9): bit 7 copied into bits 15..8. -/
def sext16 (b : Byte) : Addr := b.signExtend 16

end Sys2Proof.Machine
end

