-- ==== Sys2Proof/Config.lean ====
section
/-! DEFINITION. What the spec fixes once for the machine, or leaves to a named parameter with a default.
The spec settles every open value of this core (93_implementation_defined.md I1 to I15), so no free value stands here. -/

namespace Sys2Proof.Config

/-- What a byte of RAM that nothing has written reads as (93 I7 "any value"). DESIGN CHOICE, unsafe: log entry 2. -/
def memFill : Byte := 0x00#8

/-- The default `IS_HALT(a) = (a == 0xFFFF)` (R7, R53, 92 D8), as the list of addresses where it holds (log entry 3). -/
def defaultHaltAddrs : List Addr := [0xFFFF#16]

end Sys2Proof.Config
end

