-- ==== Sys2Proof/Machine/State.lean ====
section
/-! DEFINITION. The state of the 6502 core: the record of 10_state.md R20, the RAM of the default bus (20_memory.md
R69), the parameters of 00_scope.md R7 as data, and the core's interface to its caller (10_state.md R42). -/

namespace Sys2Proof.Machine

/-- The seven stored status flags (10_state.md R20, R29 to R35). Bit 5 of the status byte has no storage (R27). -/
structure Flags where
  c : Bool
  z : Bool
  i : Bool
  d : Bool
  b : Bool
  v : Bool
  n : Bool
deriving DecidableEq, Repr

/-- The names of the flags, for the setters of R42 and the flag column of R88. -/
inductive Flag where
  | c | z | i | d | b | v | n
deriving DecidableEq, Repr

/-- The names of the 8-bit registers (10_state.md R22 to R25). -/
inductive Reg where
  | a | x | y | sp
deriving DecidableEq, Repr

/-- `RUN` (10_state.md R39). -/
inductive RunState where
  | running
  | halted
deriving DecidableEq, Repr

/-- The reasons a run can stop (60_exceptions.md R290). -/
inductive StopReason where
  /-- R292: the budget test at a boundary. -/
  | budgetExhausted
  /-- R291: a bus read of a halt address. -/
  | halted
  /-- R293: the fetched opcode has no row in the opcode table. -/
  | illegalOpcode (op : Byte)
deriving DecidableEq, Repr

/-- One bus call (20_memory.md R51, R52). -/
inductive BusCall where
  | read (a : Addr)
  | write (a : Addr) (v : Byte)
deriving DecidableEq, Repr

/-- Which bus serves one bus call (00_scope.md R7, 20_memory.md R51, R52, R58; log entry 1): the default RAM, or a bus of the caller's
own, whose `BUS_READ` answers the byte and whose `BUS_WRITE` has its effect outside MEM. -/
inductive BusService where
  | ram
  | caller (answer : Byte)
deriving DecidableEq, Repr

/-- The caller's operations of 10_state.md R42 that change the state. `run` carries the arguments of Run and the
interrupt inputs at the boundaries 0, 1, 2, … of that run (R7, R43), false past the end of each list. -/
inductive Call where
  | setReg (r : Reg) (v : Byte)
  | setPc (v : Addr)
  | setFlag (f : Flag) (v : Bool)
  | reset
  | run (budget cycIn : Nat) (irqLine nmiEdge : List Bool)
deriving DecidableEq, Repr

/-- What an operation of R42 answers to its caller: Run's `(CYC, stop reason)` (R290), Reset's `ok` or `halted` (R321). -/
inductive Reply where
  | ran (cyc : Nat) (reason : StopReason)
  | resetOk
  | resetHalted
deriving DecidableEq, Repr

/-- The RAM of 20_memory.md R69 as a list of (address, byte) pairs in the canonical form of `Memory.wf`. -/
abbrev Memory := List Host.Cell

/-- The whole state. -/
structure State where
  -- the record of R20
  a : Byte
  x : Byte
  y : Byte
  sp : Byte
  pc : Addr
  flags : Flags
  cyc : Nat
  run : RunState
  nmiPending : Bool
  -- MEM of R69
  mem : Memory
  -- the parameters of R7; `bus` tells how the coming bus calls are served, the RAM serving all past its end
  bus : List BusService
  haltAddrs : List Addr
  budget : Nat
  irqLine : List Bool
  nmiEdge : List Bool
  -- the model's own fields: pending caller operations, the last answer, the bus calls of the current step
  calls : List Call
  reply : Option Reply
  busLog : List BusCall
deriving DecidableEq, Repr

/-- Reasons to stop with a fault. NONE: 93_implementation_defined.md §1 "No behaviour of this core is treated as
`fault`"; every stop reason of R290 is a next state with `run = halted`. Nobody raises one; safe (log entry 9). -/
inductive Fault where
deriving DecidableEq, Repr

/-- Reasons for which the model gives no meaning. -/
inductive Refusal where
  /-- Raised only by an arm of `exec` whose instruction has no meaning yet; no arm does. Safe. -/
  | notModelled (mnemonic : String)
deriving DecidableEq, Repr

/-- A bus-using computation: done with a value, or ended by the halt signal (R13 `raise Halt`), with the state that the
completed primitives leave (R122). -/
inductive Access (α : Type) where
  | done (value : α) (s : State)
  | halt (s : State)
deriving DecidableEq, Repr

/-- The flags after Construct and after Reset (R46): I = 1, all others 0. -/
def resetFlags : Flags :=
  { c := false, z := false, i := true, d := false, b := false, v := false, n := false }

/-- `Construct(bus)` (70_reset_and_hazards.md R320, R46): `mem` is the RAM's contents, `bus` what the caller's bus serves itself,
`haltAddrs` the halt predicate. -/
def State.construct (mem : Memory) (bus : List BusService) (haltAddrs : List Addr) : State :=
  { a := 0x00#8, x := 0x00#8, y := 0x00#8, sp := 0xFD#8, pc := 0x0000#16, flags := resetFlags,
    cyc := 0, run := .halted, nmiPending := false, mem := mem, bus := bus, haltAddrs := haltAddrs,
    budget := 0, irqLine := [], nmiEdge := [], calls := [], reply := none, busLog := [] }

/-- The machine after `Construct` with the default bus and the default halt predicate: R46, column "after Construct". -/
def State.reset : State := State.construct [] [] Config.defaultHaltAddrs

end Sys2Proof.Machine
end

