-- ==== Sys2Proof/Machine/Flags.lean ====
section
/-! DEFINITION. The flag_unit and the alu_8bit (40_execution.md R120, R123): pure functions of bytes and flags. -/

namespace Sys2Proof.Machine

/-- `setZN(v)` (R120): Z and N from `v`, nothing else. -/
def setZN (v : Byte) (f : Flags) : Flags := { f with z := v == 0#8, n := v.getLsbD 7 }

/-- `pack(b4, b5)` (10_state.md R27): N V b5 b4 D I Z C. -/
def pack (f : Flags) (b4 b5 : Bool) : Byte :=
  BitVec.ofNat 8 (f.n.toNat * 128 + f.v.toNat * 64 + b5.toNat * 32 + b4.toNat * 16 + f.d.toNat * 8
    + f.i.toNat * 4 + f.z.toNat * 2 + f.c.toNat)

/-- `unpack(p)` (R28): all seven flags from the byte; bit 5 is ignored. -/
def unpack (p : Byte) : Flags :=
  { n := p.getLsbD 7, v := p.getLsbD 6, b := p.getLsbD 4, d := p.getLsbD 3, i := p.getLsbD 2,
    z := p.getLsbD 1, c := p.getLsbD 0 }

/-- Reading one flag by name (R42 Get). -/
def Flags.get (f : Flags) (k : Flag) : Bool :=
  match k with
  | .c => f.c
  | .z => f.z
  | .i => f.i
  | .d => f.d
  | .b => f.b
  | .v => f.v
  | .n => f.n

/-- Writing one flag by name (R42 Set). -/
def Flags.set (f : Flags) (k : Flag) (b : Bool) : Flags :=
  match k with
  | .c => { f with c := b }
  | .z => { f with z := b }
  | .i => { f with i := b }
  | .d => { f with d := b }
  | .b => { f with b := b }
  | .v => { f with v := b }
  | .n => { f with n := b }

/-- What the arithmetic primitives of 42_arithmetic.md return: the new A and the four flags N, V, Z, C. -/
structure AluSum where
  r : Byte
  n : Bool
  v : Bool
  z : Bool
  c : Bool
deriving DecidableEq, Repr

/-- `ADD_BIN(a, m, c)` (R161). -/
def addBin (a m : Byte) (c : Bool) : AluSum :=
  let s := a.toNat + m.toNat + c.toNat
  let r := BitVec.ofNat 8 s
  { r := r, n := r.getLsbD 7, v := ((a ^^^ r) &&& (m ^^^ r) &&& 0x80#8) != 0#8, z := r == 0#8, c := decide (255 < s) }

/-- `ADD_DEC(a, m, c)` (R162), the NMOS decimal add, defined for every input. -/
def addDec (a m : Byte) (c : Bool) : AluSum :=
  let al₀ := (a &&& 0x0F#8).toNat + (m &&& 0x0F#8).toNat + c.toNat
  let al := if 0x0A ≤ al₀ then (al₀ + 0x06) % 16 + 0x10 else al₀
  let t₀ := (a &&& 0xF0#8).toNat + (m &&& 0xF0#8).toNat + al
  let tn : Int := (a &&& 0xF0#8).toInt + (m &&& 0xF0#8).toInt + (al : Int)
  let t := if 0xA0 ≤ t₀ then t₀ + 0x60 else t₀
  { r := BitVec.ofNat 8 t, n := (BitVec.ofInt 8 tn).getLsbD 7, v := decide (tn < -128) || decide (127 < tn),
    z := (a.toNat + m.toNat + c.toNat) % 256 == 0, c := decide (0x100 ≤ t) }

/-- `SUB_BIN(a, m, c)` (R164); C = 1 means no borrow. -/
def subBin (a m : Byte) (c : Bool) : AluSum :=
  let d : Int := (a.toNat : Int) - (m.toNat : Int) - (1 - (c.toNat : Int))
  let r := BitVec.ofInt 8 d
  { r := r, n := r.getLsbD 7, v := ((a ^^^ m) &&& (a ^^^ r) &&& 0x80#8) != 0#8, z := r == 0#8, c := decide (0 ≤ d) }

/-- `SUB_DEC(a, m, c)` (R165), the NMOS decimal subtract: the accumulator only. -/
def subDec (a m : Byte) (c : Bool) : Byte :=
  let al₀ : Int := ((a &&& 0x0F#8).toNat : Int) - ((m &&& 0x0F#8).toNat : Int) + (c.toNat : Int) - 1
  let al := if al₀ < 0 then (al₀ - 0x06) % 16 - 0x10 else al₀
  let t₀ := ((a &&& 0xF0#8).toNat : Int) - ((m &&& 0xF0#8).toNat : Int) + al
  let t := if t₀ < 0 then t₀ - 0x60 else t₀
  BitVec.ofInt 8 t

/-- The flags that ADC and SBC write: N, V, Z and C (R160, R163). -/
def withSum (o : AluSum) (f : Flags) : Flags := { f with n := o.n, v := o.v, z := o.z, c := o.c }

/-- ADC's result and flags (R160): D selects the mode. -/
def adc (a m : Byte) (f : Flags) : Byte × Flags :=
  let o := if f.d then addDec a m f.c else addBin a m f.c
  (o.r, withSum o f)

/-- SBC's result and flags (R163): the flags come from the binary result in both modes. -/
def sbc (a m : Byte) (f : Flags) : Byte × Flags :=
  let o := subBin a m f.c
  (if f.d then subDec a m f.c else o.r, withSum o f)

/-- `COMPARE(r, m)` (R200): C, Z and N; the carry-in is not used. -/
def compareFlags (r m : Byte) (f : Flags) : Flags :=
  setZN (r - m) { f with c := decide (m.toNat ≤ r.toNat) }

/-- BIT's flags (R183): Z from `A & m`, N and V from bits 7 and 6 of `m`. -/
def bitTest (a m : Byte) (f : Flags) : Flags :=
  { f with z := (a &&& m) == 0#8, n := m.getLsbD 7, v := m.getLsbD 6 }

/-- The result and flags of ASL (R190). -/
def asl (m : Byte) (f : Flags) : Byte × Flags :=
  let r := m <<< 1
  (r, setZN r { f with c := m.getLsbD 7 })

/-- The result and flags of LSR (R191). -/
def lsr (m : Byte) (f : Flags) : Byte × Flags :=
  let r := m >>> 1
  (r, setZN r { f with c := m.getLsbD 0 })

/-- The result and flags of ROL (R192): the old C goes into bit 0. -/
def rol (m : Byte) (f : Flags) : Byte × Flags :=
  let r := BitVec.ofNat 8 (m.toNat * 2 + f.c.toNat)
  (r, setZN r { f with c := m.getLsbD 7 })

/-- The result and flags of ROR (R193): the old C goes into bit 7. -/
def ror (m : Byte) (f : Flags) : Byte × Flags :=
  let r := BitVec.ofNat 8 (m.toNat / 2 + f.c.toNat * 128)
  (r, setZN r { f with c := m.getLsbD 0 })

/-- The result and flags of INC, INX, INY (R204, R206, R207). -/
def inc (m : Byte) (f : Flags) : Byte × Flags := (m + 1#8, setZN (m + 1#8) f)

/-- The result and flags of DEC, DEX, DEY (R205, R208, R209). -/
def dec (m : Byte) (f : Flags) : Byte × Flags := (m - 1#8, setZN (m - 1#8) f)

end Sys2Proof.Machine
end

