-- ==== Sys2Proof/Machine/Memory.lean ====
section
/-! DEFINITION. The RAM of 20_memory.md R69 as plain data: reading, writing, and the canonical form. -/

namespace Sys2Proof.Machine

/-- The byte at `a`; an unlisted address reads as `Config.memFill` (log entry 2). -/
def Memory.read : Memory → Nat → Byte
  | [], _ => Config.memFill
  | (k, v) :: m, a => if k = a then v else Memory.read m a

/-- `m` without an entry for `a`. -/
def Memory.erase : Memory → Nat → Memory
  | [], _ => []
  | (k, v) :: m, a => if k = a then Memory.erase m a else (k, v) :: Memory.erase m a

/-- `m` with the entry `(a, v)` in its place, for an `m` with no entry for `a`. -/
def Memory.insert : Memory → Nat → Byte → Memory
  | [], a, v => [(a, v)]
  | (k, w) :: m, a, v => if a < k then (a, v) :: (k, w) :: m else (k, w) :: Memory.insert m a v

/-- `MEM[a] <- v` (R69), keeping the canonical form: the fill value is never listed. -/
def Memory.write (m : Memory) (a : Nat) (v : Byte) : Memory :=
  if v = Config.memFill then Memory.erase m a else Memory.insert (Memory.erase m a) a v

/-- The addresses of `m` rise strictly and all lie above `low`, every address is a 16-bit one, and no entry equals the
fill value. -/
def Memory.wfAbove : Option Nat → Memory → Bool
  | _, [] => true
  | low, (k, v) :: m =>
    (match low with
      | none => true
      | some l => decide (l < k)) && decide (k < 65536) && decide (v ≠ Config.memFill) && Memory.wfAbove (some k) m

/-- The canonical form of a memory: equal memories are equal lists. -/
def Memory.wf (m : Memory) : Bool := Memory.wfAbove none m

end Sys2Proof.Machine
end

