-- ==== Sys2Proof/Machine/Ops.lean ====
section
/-! DEFINITION. The named operations: bus calls, stack, fetch, vectors, completion and stop of a step, and TAKING AN
INTERRUPT (`enter`, R284) with the return from one (`returnFromInterrupt`, R271). -/

namespace Sys2Proof.Machine

/-- `x` and then `f` of its value; a halt of `x` ends the whole computation (R13, R122). -/
def Access.andThen {α β : Type} (x : Access α) (f : α → State → Access β) : Access β :=
  match x with
  | .done v s => f v s
  | .halt s => .halt s

/-- `IS_HALT(a)` (R7, R53). -/
def isHalt (s : State) (a : Addr) : Bool := s.haltAddrs.contains a

/-- `MEM[a]` (R69), with no bus call. -/
def readByte (s : State) (a : Addr) : Byte := Memory.read s.mem a.toNat

/-- Records one bus call (R65; log entry 8). -/
def logCall (c : BusCall) (s : State) : State := { s with busLog := s.busLog ++ [c] }

/-- Which bus serves the `k`-th bus call from here (R7; log entry 1). -/
def serviceAt (s : State) (k : Nat) : BusService := s.bus.getD k .ram

/-- `BUS_READ(a)` as the `k`-th bus call from here, MEM being as it is here (R7, R51, R69). -/
def busRead (s : State) (k : Nat) (a : Addr) : Byte :=
  match serviceAt s k with
  | .ram => readByte s a
  | .caller v => v

/-- MEM after `BUS_WRITE(a, v)` as the next bus call (R7, R52, R69). -/
def busWrite (s : State) (a : Addr) (v : Byte) : Memory :=
  match serviceAt s 0 with
  | .ram => Memory.write s.mem a.toNat v
  | .caller _ => s.mem

/-- Records one bus call that the bus has served. -/
def served (c : BusCall) (s : State) : State := { logCall c s with bus := s.bus.drop 1 }

/-- `MemRead(a, 1)` (R11, R51, R53): one bus read; at a halt address it raises Halt, the bus serves nothing and no byte returns. -/
def memRead (a : Addr) (s : State) : Access Byte :=
  if isHalt s a then .halt (logCall (.read a) s) else .done (busRead s 0 a) (served (.read a) s)

/-- `MemWrite(a, 1, v)` (R11, R52): one bus write; it never halts. -/
def memWrite (a : Addr) (v : Byte) (s : State) : State :=
  served (.write a v) { s with mem := busWrite s a v }

/-- `Read16(a)` (R12): low byte first, the high byte at `(a + 1) mod 65536`. -/
def read16 (a : Addr) (s : State) : Access Addr :=
  (memRead a s).andThen fun l s => (memRead (a + 1#16) s).andThen fun h s => .done (a16 l h) s

/-- `FetchByte()` (R12): PC advances only after the read answers. -/
def fetchByte (s : State) : Access Byte :=
  (memRead s.pc s).andThen fun b s => .done b { s with pc := s.pc + 1#16 }

/-- `0x0100 + SP` (R6, R25). -/
def stackAddr (sp : Byte) : Addr := 0x0100#16 + zext16 sp

/-- `Push(v)` (R60): writes at `0x0100 + SP`, then decrements SP modulo 256. -/
def push (v : Byte) (s : State) : State :=
  let s' := memWrite (stackAddr s.sp) v s
  { s' with sp := s'.sp - 1#8 }

/-- `Pull()` (R61): increments SP modulo 256, then reads at `0x0100 + SP`; a halt leaves SP incremented. -/
def pull (s : State) : Access Byte :=
  let s' := { s with sp := s.sp + 1#8 }
  memRead (stackAddr s'.sp) s'

/-- The vectors of R63. -/
def nmiVector : Addr := 0xFFFA#16
def resetVector : Addr := 0xFFFC#16
def irqVector : Addr := 0xFFFE#16

/-- `stop reason` (R13, R290): RUN becomes Halted and Run answers `(CYC, reason)`. -/
def stopRun (reason : StopReason) (s : State) : State :=
  { s with run := .halted, reply := some (.ran s.cyc reason) }

/-- What the run loop does with the step's result (R101, R121, R122): a completed step adds its cost to CYC, a halted
one ends the run with `halted` and adds nothing. -/
def settle (r : Access Nat) : State :=
  match r with
  | .done cost s => { s with cyc := s.cyc + cost }
  | .halt s => stopRun .halted s

/-- The outcome of an instruction whose statements leave `r`: always a next state (log entry 9). -/
def complete (r : Access Nat) : Host.Outcome State Fault Refusal := .next (settle r)

/-- `Enter(vector, b4)` (R284), the common entry of BRK, NMI and IRQ: pushes PC (high byte first) and the status byte
with bit 5 = 1 and bit 4 = `b4`, sets I, and loads PC from the vector. -/
def enter (vector : Addr) (b4 : Bool) (s : State) : Access Unit :=
  let s := push (hi s.pc) s
  let s := push (lo s.pc) s
  let s := push (pack s.flags b4 true) s
  let s := { s with flags := { s.flags with i := true } }
  (read16 vector s).andThen fun target s => .done () { s with pc := target }

/-- `NmiEntry()` (R285): cost 7. -/
def nmiEntry (s : State) : State :=
  settle ((enter nmiVector false { s with nmiPending := false }).andThen fun _ s => .done 7 s)

/-- `IrqEntry()` (R286): cost 7. -/
def irqEntry (s : State) : State :=
  settle ((enter irqVector false s).andThen fun _ s => .done 7 s)

/-- The return from an interrupt (R271, R288): status, then PC low, then PC high; the flags are unpacked after the last
pull, and nothing is added to PC. -/
def returnFromInterrupt (s : State) : Access Unit :=
  (pull s).andThen fun p s => (pull s).andThen fun l s => (pull s).andThen fun h s =>
    .done () { s with flags := unpack p, pc := a16 l h }

/-- The extra-cycle classes of R119: none, `p` (+1 if page crossed), `b` (branch). -/
inductive Extra where
  | none
  | page
  | branch
deriving DecidableEq, Repr

/-- `Cost(base, extra, crossed, taken)` (R119). -/
def cost (base : Nat) (extra : Extra) (crossed taken : Bool) : Nat :=
  match extra with
  | .none => base
  | .page => if crossed then base + 1 else base
  | .branch => if taken then (if crossed then base + 2 else base + 1) else base

end Sys2Proof.Machine
end

