-- ==== Sys2Proof/Machine/Boundary.lean ====
section
/-! DEFINITION. The instruction boundary: the budget test, the sampling of the interrupt inputs and the interrupt entries, in the
priority of 60_exceptions.md R283 (40_execution.md R101, R102). -/

namespace Sys2Proof.Machine

/-- What the boundary leaves to do. -/
inductive Boundary where
  /-- The step is over: the run stopped, or an interrupt was entered. -/
  | over (s : State)
  /-- The next instruction is fetched. -/
  | fetch (s : State)
deriving DecidableEq, Repr

/-- `IRQ_LINE(k)` at the present boundary (R43), false past the end of the list (log entry 5). -/
def irqLevel (s : State) : Bool := s.irqLine.headD false

/-- `NMI_EDGE(k)` at the present boundary. -/
def nmiEdgeNow (s : State) : Bool := s.nmiEdge.headD false

/-- `if NMI_EDGE(k): NMI_PENDING <- true` (R101), and the inputs of boundary k + 1 come next. -/
def sampleInputs (s : State) : State :=
  { s with nmiPending := s.nmiPending || nmiEdgeNow s, irqLine := s.irqLine.tail, nmiEdge := s.nmiEdge.tail }

/-- The boundary in the order of R283: budget, NMI, IRQ, fetch. -/
def boundary (s : State) : Boundary :=
  if s.budget ≤ s.cyc then .over (stopRun .budgetExhausted s)
  else if (sampleInputs s).nmiPending then .over (nmiEntry (sampleInputs s))
  else if irqLevel s && !s.flags.i then .over (irqEntry (sampleInputs s))
  else .fetch (sampleInputs s)

end Sys2Proof.Machine
end

