-- ==== Sys2Proof/Machine/Caller.lean ====
section
/-! DEFINITION. The core's interface to its caller (10_state.md R42): Get, Set, Inspect, Reset and Run. Construct is
`State.construct`. -/

namespace Sys2Proof.Machine

/-- `Get<r>()` (R42). -/
def getReg (r : Reg) (s : State) : Byte :=
  match r with
  | .a => s.a
  | .x => s.x
  | .y => s.y
  | .sp => s.sp

/-- `Set<r>(v)` (R42). -/
def setReg (r : Reg) (v : Byte) (s : State) : State :=
  match r with
  | .a => { s with a := v }
  | .x => { s with x := v }
  | .y => { s with y := v }
  | .sp => { s with sp := v }

/-- `Get<f>()` (R42). -/
def getFlag (f : Flag) (s : State) : Bool := s.flags.get f

/-- `Set<f>(b)` (R42). -/
def setFlag (f : Flag) (b : Bool) (s : State) : State := { s with flags := s.flags.set f b }

/-- What `Inspect()` returns (R42): the registers, the flags and `pack(B, 1)`. -/
structure Inspection where
  a : Byte
  x : Byte
  y : Byte
  sp : Byte
  pc : Addr
  flags : Flags
  p : Byte
deriving DecidableEq, Repr

/-- `Inspect()` (R42); it changes no state. -/
def inspect (s : State) : Inspection :=
  { a := s.a, x := s.x, y := s.y, sp := s.sp, pc := s.pc, flags := s.flags, p := pack s.flags s.flags.b true }

/-- `Reset()` (70_reset_and_hazards.md R321): the register, flag and latch values of R46, then PC from the reset vector; a halt on a
vector read leaves PC as it was and answers `halted`. -/
def resetCore (s : State) : State :=
  let s' := { s with a := 0x00#8, x := 0x00#8, y := 0x00#8, sp := 0xFD#8, flags := resetFlags, nmiPending := false }
  match read16 resetVector s' with
  | .done target t => { t with pc := target, reply := some .resetOk }
  | .halt t => { t with reply := some .resetHalted }

/-- The entry of `Run(budget, cycIn)` (R42, 40_execution.md R101) with the interrupt inputs of its boundaries (R43). -/
def startRun (budget cycIn : Nat) (irqLine nmiEdge : List Bool) (s : State) : State :=
  { s with cyc := cycIn, run := .running, budget := budget, irqLine := irqLine, nmiEdge := nmiEdge, reply := none }

/-- One operation of the caller. -/
def perform (c : Call) (s : State) : State :=
  match c with
  | .setReg r v => setReg r v s
  | .setPc v => { s with pc := v }
  | .setFlag f b => setFlag f b s
  | .reset => resetCore s
  | .run budget cycIn irqLine nmiEdge => startRun budget cycIn irqLine nmiEdge s

/-- A step while `RUN = Halted`: the caller's next operation; without one the core stays as it is (R300, R39; log entry 6). -/
def callerStep (s : State) : State :=
  match s.calls with
  | [] => s
  | c :: cs => perform c { s with calls := cs, busLog := [] }

end Sys2Proof.Machine
end

