-- ==== Sys2Proof/Machine/Operands.lean ====
section
/-! DEFINITION. The addressing_resolver (40_execution.md R103 to R116) and the operand access (R117, R118). The operand
bytes are already fetched when an operation runs, so PC is the address of the next instruction here (log entry 10). -/

namespace Sys2Proof.Machine

/-- The addressing modes with an effective address, each with its operand bytes (30_encoding.md R81, R82). -/
inductive Operand where
  | zp (b : Byte)
  | zpX (b : Byte)
  | zpY (b : Byte)
  | abs (w : Addr)
  | absX (w : Addr)
  | absY (w : Addr)
  | ind (w : Addr)
  | indX (b : Byte)
  | indY (b : Byte)
  | rel (off : Byte)
deriving DecidableEq, Repr

/-- `loc = ADDR(ea)` and `crossed` (R103). -/
structure Resolved where
  ea : Addr
  crossed : Bool
deriving DecidableEq, Repr

/-- Indexing an address in 16 bits (R111, R112): the sum wraps modulo 65536, `crossed` compares the high bytes. -/
def indexed (base : Addr) (index : Byte) : Resolved :=
  { ea := base + zext16 index, crossed := hi (base + zext16 index) != hi base }

/-- R107. -/
def resolveZp (b : Byte) (s : State) : Access Resolved := .done ⟨zext16 b, false⟩ s

/-- R108: the sum wraps inside page 0. -/
def resolveZpX (b : Byte) (s : State) : Access Resolved := .done ⟨zext16 (b + s.x), false⟩ s

/-- R109: the sum wraps inside page 0. -/
def resolveZpY (b : Byte) (s : State) : Access Resolved := .done ⟨zext16 (b + s.y), false⟩ s

/-- R110. -/
def resolveAbs (w : Addr) (s : State) : Access Resolved := .done ⟨w, false⟩ s

/-- R111. -/
def resolveAbsX (w : Addr) (s : State) : Access Resolved := .done (indexed w s.x) s

/-- R112. -/
def resolveAbsY (w : Addr) (s : State) : Access Resolved := .done (indexed w s.y) s

/-- R113: the high byte of the target comes from the same page as the low byte. -/
def resolveInd (w : Addr) (s : State) : Access Resolved :=
  (memRead w s).andThen fun tl s =>
    (memRead ((w &&& 0xFF00#16) ||| ((w + 1#16) &&& 0x00FF#16)) s).andThen fun th s =>
      .done ⟨a16 tl th, false⟩ s

/-- R114: both pointer bytes come from page 0. -/
def resolveIndX (b : Byte) (s : State) : Access Resolved :=
  let p := b + s.x
  (memRead (zext16 p) s).andThen fun l s =>
    (memRead (zext16 (p + 1#8)) s).andThen fun h s => .done ⟨a16 l h, false⟩ s

/-- R115: both pointer bytes come from page 0, then Y is added in 16 bits. -/
def resolveIndY (b : Byte) (s : State) : Access Resolved :=
  (memRead (zext16 b) s).andThen fun l s =>
    (memRead (zext16 (b + 1#8)) s).andThen fun h s => .done (indexed (a16 l h) s.y) s

/-- R116: the target from PC after the instruction; `crossed` compares it with that PC. -/
def resolveRel (off : Byte) (s : State) : Access Resolved :=
  .done ⟨s.pc + sext16 off, hi (s.pc + sext16 off) != hi s.pc⟩ s

/-- `Resolve(mode)` (R103). -/
def resolve (o : Operand) (s : State) : Access Resolved :=
  match o with
  | .zp b => resolveZp b s
  | .zpX b => resolveZpX b s
  | .zpY b => resolveZpY b s
  | .abs w => resolveAbs w s
  | .absX w => resolveAbsX w s
  | .absY w => resolveAbsY w s
  | .ind w => resolveInd w s
  | .indX b => resolveIndX b s
  | .indY b => resolveIndY b s
  | .rel off => resolveRel off s

/-- An instruction with no bus call after its fetch: its effect and its cost. -/
def internal (base : Nat) (f : State → State) (s : State) : Host.Outcome State Fault Refusal :=
  complete (.done base (f s))

/-- An instruction that reads one memory operand (R117) and applies `f` to the byte. -/
def readOperand (base : Nat) (extra : Extra) (o : Operand) (f : Byte → State → State) (s : State) :
    Host.Outcome State Fault Refusal :=
  complete ((resolve o s).andThen fun r s => (memRead r.ea s).andThen fun m s =>
    .done (cost base extra r.crossed false) (f m s))

/-- A plain store (R143 to R145): one write of `v`, no read of the target, no page-cross cycle. -/
def storeOperand (base : Nat) (o : Operand) (v : Byte) (s : State) : Host.Outcome State Fault Refusal :=
  complete ((resolve o s).andThen fun r s => .done (cost base .none r.crossed false) (memWrite r.ea v s))

/-- A read-modify-write of memory (R118): one read, one write, then the flags; no page-cross cycle. -/
def modifyOperand (base : Nat) (o : Operand) (f : Byte → Flags → Byte × Flags) (s : State) :
    Host.Outcome State Fault Refusal :=
  complete ((resolve o s).andThen fun r s => (memRead r.ea s).andThen fun m s =>
    let s' := memWrite r.ea (f m s.flags).1 s
    .done (cost base .none r.crossed false) { s' with flags := (f m s.flags).2 })

/-- The accumulator form of a read-modify-write (R105, R118 with `loc = ACC`). -/
def modifyAcc (base : Nat) (f : Byte → Flags → Byte × Flags) (s : State) : Host.Outcome State Fault Refusal :=
  internal base (fun s => { s with a := (f s.a s.flags).1, flags := (f s.a s.flags).2 }) s

/-- A conditional branch (46_branch.md R220). -/
def branchIf (base : Nat) (cond : Bool) (off : Byte) (s : State) : Host.Outcome State Fault Refusal :=
  complete ((resolve (.rel off) s).andThen fun r s =>
    .done (cost base .branch r.crossed cond) (if cond then { s with pc := r.ea } else s))

end Sys2Proof.Machine
end

