-- ==== Sys2Proof/Machine/Arith.lean ====
section
/-! DEFINITION. ADC and SBC (42_arithmetic.md). -/

namespace Sys2Proof.Machine

/-- A and the flags N, V, Z, C after ADC of `m` (R160). -/
def adcA (m : Byte) (s : State) : State := { s with a := (adc s.a m s.flags).1, flags := (adc s.a m s.flags).2 }

/-- A and the flags N, V, Z, C after SBC of `m` (R163). -/
def sbcA (m : Byte) (s : State) : State := { s with a := (sbc s.a m s.flags).1, flags := (sbc s.a m s.flags).2 }

/-- ADC #$nn, 0x69 (R160). -/
def execAdcImm (v : Byte) (s : State) : Host.Outcome State Fault Refusal :=
  internal 2 (adcA v) s

/-- ADC $nn, 0x65 (R160). -/
def execAdcZp (b : Byte) (s : State) : Host.Outcome State Fault Refusal :=
  readOperand 3 .none (.zp b) adcA s

/-- ADC $nn,X, 0x75 (R160). -/
def execAdcZpX (b : Byte) (s : State) : Host.Outcome State Fault Refusal :=
  readOperand 4 .none (.zpX b) adcA s

/-- ADC $nnnn, 0x6D (R160). -/
def execAdcAbs (w : Addr) (s : State) : Host.Outcome State Fault Refusal :=
  readOperand 4 .none (.abs w) adcA s

/-- ADC $nnnn,X, 0x7D (R160). -/
def execAdcAbsX (w : Addr) (s : State) : Host.Outcome State Fault Refusal :=
  readOperand 4 .page (.absX w) adcA s

/-- ADC $nnnn,Y, 0x79 (R160). -/
def execAdcAbsY (w : Addr) (s : State) : Host.Outcome State Fault Refusal :=
  readOperand 4 .page (.absY w) adcA s

/-- ADC ($nn,X), 0x61 (R160). -/
def execAdcIndX (b : Byte) (s : State) : Host.Outcome State Fault Refusal :=
  readOperand 6 .none (.indX b) adcA s

/-- ADC ($nn),Y, 0x71 (R160). -/
def execAdcIndY (b : Byte) (s : State) : Host.Outcome State Fault Refusal :=
  readOperand 5 .page (.indY b) adcA s

/-- SBC #$nn, 0xE9 (R163). -/
def execSbcImm (v : Byte) (s : State) : Host.Outcome State Fault Refusal :=
  internal 2 (sbcA v) s

/-- SBC $nn, 0xE5 (R163). -/
def execSbcZp (b : Byte) (s : State) : Host.Outcome State Fault Refusal :=
  readOperand 3 .none (.zp b) sbcA s

/-- SBC $nn,X, 0xF5 (R163). -/
def execSbcZpX (b : Byte) (s : State) : Host.Outcome State Fault Refusal :=
  readOperand 4 .none (.zpX b) sbcA s

/-- SBC $nnnn, 0xED (R163). -/
def execSbcAbs (w : Addr) (s : State) : Host.Outcome State Fault Refusal :=
  readOperand 4 .none (.abs w) sbcA s

/-- SBC $nnnn,X, 0xFD (R163). -/
def execSbcAbsX (w : Addr) (s : State) : Host.Outcome State Fault Refusal :=
  readOperand 4 .page (.absX w) sbcA s

/-- SBC $nnnn,Y, 0xF9 (R163). -/
def execSbcAbsY (w : Addr) (s : State) : Host.Outcome State Fault Refusal :=
  readOperand 4 .page (.absY w) sbcA s

/-- SBC ($nn,X), 0xE1 (R163). -/
def execSbcIndX (b : Byte) (s : State) : Host.Outcome State Fault Refusal :=
  readOperand 6 .none (.indX b) sbcA s

/-- SBC ($nn),Y, 0xF1 (R163). -/
def execSbcIndY (b : Byte) (s : State) : Host.Outcome State Fault Refusal :=
  readOperand 5 .page (.indY b) sbcA s

end Sys2Proof.Machine
end

