-- ==== Sys2Proof/Machine/Branch.lean ====
section
/-! DEFINITION. Conditional branches (46_branch.md). -/

namespace Sys2Proof.Machine

/-- BCC $nnnn (target), 0x90 (R221). -/
def execBcc (off : Byte) (s : State) : Host.Outcome State Fault Refusal :=
  branchIf 2 (!s.flags.c) off s

/-- BCS $nnnn (target), 0xB0 (R222). -/
def execBcs (off : Byte) (s : State) : Host.Outcome State Fault Refusal :=
  branchIf 2 s.flags.c off s

/-- BEQ $nnnn (target), 0xF0 (R223). -/
def execBeq (off : Byte) (s : State) : Host.Outcome State Fault Refusal :=
  branchIf 2 s.flags.z off s

/-- BNE $nnnn (target), 0xD0 (R224). -/
def execBne (off : Byte) (s : State) : Host.Outcome State Fault Refusal :=
  branchIf 2 (!s.flags.z) off s

/-- BMI $nnnn (target), 0x30 (R225). -/
def execBmi (off : Byte) (s : State) : Host.Outcome State Fault Refusal :=
  branchIf 2 s.flags.n off s

/-- BPL $nnnn (target), 0x10 (R226). -/
def execBpl (off : Byte) (s : State) : Host.Outcome State Fault Refusal :=
  branchIf 2 (!s.flags.n) off s

/-- BVC $nnnn (target), 0x50 (R227). -/
def execBvc (off : Byte) (s : State) : Host.Outcome State Fault Refusal :=
  branchIf 2 (!s.flags.v) off s

/-- BVS $nnnn (target), 0x70 (R228). -/
def execBvs (off : Byte) (s : State) : Host.Outcome State Fault Refusal :=
  branchIf 2 s.flags.v off s

end Sys2Proof.Machine
end

