-- ==== Sys2Proof/Machine/Break.lean ====
section
/-! DEFINITION. BRK and RTI (49_break_interrupt.md), over the shared entry `enter` (R284) and return of Machine/Ops.lean. -/

namespace Sys2Proof.Machine

/-- BRK, 0x00 (R270). -/
def execBrk (s : State) : Host.Outcome State Fault Refusal :=
  complete ((enter irqVector true { s with pc := s.pc + 1#16, flags := { s.flags with b := true } }).andThen fun _ s =>
    .done 7 s)

/-- RTI, 0x40 (R271). -/
def execRti (s : State) : Host.Outcome State Fault Refusal :=
  complete ((returnFromInterrupt s).andThen fun _ s => .done 6 s)

end Sys2Proof.Machine
end

