-- ==== Sys2Proof/Machine/Compare.lean ====
section
/-! DEFINITION. Compare, increment and decrement (45_compare_incdec.md). -/

namespace Sys2Proof.Machine

/-- `COMPARE(A, m)` (R201). -/
def cmpA (m : Byte) (s : State) : State := { s with flags := compareFlags s.a m s.flags }

/-- `COMPARE(X, m)` (R202). -/
def cmpX (m : Byte) (s : State) : State := { s with flags := compareFlags s.x m s.flags }

/-- `COMPARE(Y, m)` (R203). -/
def cmpY (m : Byte) (s : State) : State := { s with flags := compareFlags s.y m s.flags }

/-- CMP #$nn, 0xC9 (R201). -/
def execCmpImm (v : Byte) (s : State) : Host.Outcome State Fault Refusal :=
  internal 2 (cmpA v) s

/-- CMP $nn, 0xC5 (R201). -/
def execCmpZp (b : Byte) (s : State) : Host.Outcome State Fault Refusal :=
  readOperand 3 .none (.zp b) cmpA s

/-- CMP $nn,X, 0xD5 (R201). -/
def execCmpZpX (b : Byte) (s : State) : Host.Outcome State Fault Refusal :=
  readOperand 4 .none (.zpX b) cmpA s

/-- CMP $nnnn, 0xCD (R201). -/
def execCmpAbs (w : Addr) (s : State) : Host.Outcome State Fault Refusal :=
  readOperand 4 .none (.abs w) cmpA s

/-- CMP $nnnn,X, 0xDD (R201). -/
def execCmpAbsX (w : Addr) (s : State) : Host.Outcome State Fault Refusal :=
  readOperand 4 .page (.absX w) cmpA s

/-- CMP $nnnn,Y, 0xD9 (R201). -/
def execCmpAbsY (w : Addr) (s : State) : Host.Outcome State Fault Refusal :=
  readOperand 4 .page (.absY w) cmpA s

/-- CMP ($nn,X), 0xC1 (R201). -/
def execCmpIndX (b : Byte) (s : State) : Host.Outcome State Fault Refusal :=
  readOperand 6 .none (.indX b) cmpA s

/-- CMP ($nn),Y, 0xD1 (R201). -/
def execCmpIndY (b : Byte) (s : State) : Host.Outcome State Fault Refusal :=
  readOperand 5 .page (.indY b) cmpA s

/-- CPX #$nn, 0xE0 (R202). -/
def execCpxImm (v : Byte) (s : State) : Host.Outcome State Fault Refusal :=
  internal 2 (cmpX v) s

/-- CPX $nn, 0xE4 (R202). -/
def execCpxZp (b : Byte) (s : State) : Host.Outcome State Fault Refusal :=
  readOperand 3 .none (.zp b) cmpX s

/-- CPX $nnnn, 0xEC (R202). -/
def execCpxAbs (w : Addr) (s : State) : Host.Outcome State Fault Refusal :=
  readOperand 4 .none (.abs w) cmpX s

/-- CPY #$nn, 0xC0 (R203). -/
def execCpyImm (v : Byte) (s : State) : Host.Outcome State Fault Refusal :=
  internal 2 (cmpY v) s

/-- CPY $nn, 0xC4 (R203). -/
def execCpyZp (b : Byte) (s : State) : Host.Outcome State Fault Refusal :=
  readOperand 3 .none (.zp b) cmpY s

/-- CPY $nnnn, 0xCC (R203). -/
def execCpyAbs (w : Addr) (s : State) : Host.Outcome State Fault Refusal :=
  readOperand 4 .none (.abs w) cmpY s

/-- INC $nn, 0xE6 (R204). -/
def execIncZp (b : Byte) (s : State) : Host.Outcome State Fault Refusal :=
  modifyOperand 5 (.zp b) inc s

/-- INC $nn,X, 0xF6 (R204). -/
def execIncZpX (b : Byte) (s : State) : Host.Outcome State Fault Refusal :=
  modifyOperand 6 (.zpX b) inc s

/-- INC $nnnn, 0xEE (R204). -/
def execIncAbs (w : Addr) (s : State) : Host.Outcome State Fault Refusal :=
  modifyOperand 6 (.abs w) inc s

/-- INC $nnnn,X, 0xFE (R204). -/
def execIncAbsX (w : Addr) (s : State) : Host.Outcome State Fault Refusal :=
  modifyOperand 7 (.absX w) inc s

/-- DEC $nn, 0xC6 (R205). -/
def execDecZp (b : Byte) (s : State) : Host.Outcome State Fault Refusal :=
  modifyOperand 5 (.zp b) dec s

/-- DEC $nn,X, 0xD6 (R205). -/
def execDecZpX (b : Byte) (s : State) : Host.Outcome State Fault Refusal :=
  modifyOperand 6 (.zpX b) dec s

/-- DEC $nnnn, 0xCE (R205). -/
def execDecAbs (w : Addr) (s : State) : Host.Outcome State Fault Refusal :=
  modifyOperand 6 (.abs w) dec s

/-- DEC $nnnn,X, 0xDE (R205). -/
def execDecAbsX (w : Addr) (s : State) : Host.Outcome State Fault Refusal :=
  modifyOperand 7 (.absX w) dec s

/-- INX, 0xE8 (R206). -/
def execInx (s : State) : Host.Outcome State Fault Refusal :=
  internal 2 (fun s => { s with x := (inc s.x s.flags).1, flags := (inc s.x s.flags).2 }) s

/-- INY, 0xC8 (R207). -/
def execIny (s : State) : Host.Outcome State Fault Refusal :=
  internal 2 (fun s => { s with y := (inc s.y s.flags).1, flags := (inc s.y s.flags).2 }) s

/-- DEX, 0xCA (R208). -/
def execDex (s : State) : Host.Outcome State Fault Refusal :=
  internal 2 (fun s => { s with x := (dec s.x s.flags).1, flags := (dec s.x s.flags).2 }) s

/-- DEY, 0x88 (R209). -/
def execDey (s : State) : Host.Outcome State Fault Refusal :=
  internal 2 (fun s => { s with y := (dec s.y s.flags).1, flags := (dec s.y s.flags).2 }) s

end Sys2Proof.Machine
end

