-- ==== Sys2Proof/Machine/Jump.lean ====
section
/-! DEFINITION. Jumps and subroutines (47_jump_subroutine.md). -/

namespace Sys2Proof.Machine

/-- `PC <- ea` (R240); no data is read at `ea`. -/
def jumpTo (base : Nat) (o : Operand) (s : State) : Host.Outcome State Fault Refusal :=
  complete ((resolve o s).andThen fun r s => .done (cost base .none r.crossed false) { s with pc := r.ea })

/-- JMP $nnnn, 0x4C (R240). -/
def execJmpAbs (w : Addr) (s : State) : Host.Outcome State Fault Refusal :=
  jumpTo 3 (.abs w) s

/-- JMP ($nnnn), 0x6C (R240). -/
def execJmpInd (w : Addr) (s : State) : Host.Outcome State Fault Refusal :=
  jumpTo 5 (.ind w) s

/-- JSR $nnnn, 0x20 (R241). -/
def execJsr (w : Addr) (s : State) : Host.Outcome State Fault Refusal :=
  internal 6 (fun s => { push (lo (s.pc - 1#16)) (push (hi (s.pc - 1#16)) s) with pc := w }) s

/-- RTS, 0x60 (R242). -/
def execRts (s : State) : Host.Outcome State Fault Refusal :=
  complete ((pull s).andThen fun l s => (pull s).andThen fun h s =>
    .done 6 { s with pc := a16 l h + 1#16 })

end Sys2Proof.Machine
end

