-- ==== Sys2Proof/Machine/Load.lean ====
section
/-! DEFINITION. Loads, stores and register transfers (41_load_store_transfer.md). PC, the operand bytes and the bus order: R122 and log entry 10. -/

namespace Sys2Proof.Machine

/-- `A <- m; setZN(m)` (R140). -/
def loadA (m : Byte) (s : State) : State := { s with a := m, flags := setZN m s.flags }

/-- `X <- m; setZN(m)` (R141). -/
def loadX (m : Byte) (s : State) : State := { s with x := m, flags := setZN m s.flags }

/-- `Y <- m; setZN(m)` (R142). -/
def loadY (m : Byte) (s : State) : State := { s with y := m, flags := setZN m s.flags }

/-- LDA #$nn, 0xA9 (R140). -/
def execLdaImm (v : Byte) (s : State) : Host.Outcome State Fault Refusal :=
  internal 2 (loadA v) s

/-- LDA $nn, 0xA5 (R140). -/
def execLdaZp (b : Byte) (s : State) : Host.Outcome State Fault Refusal :=
  readOperand 3 .none (.zp b) loadA s

/-- LDA $nn,X, 0xB5 (R140). -/
def execLdaZpX (b : Byte) (s : State) : Host.Outcome State Fault Refusal :=
  readOperand 4 .none (.zpX b) loadA s

/-- LDA $nnnn, 0xAD (R140). -/
def execLdaAbs (w : Addr) (s : State) : Host.Outcome State Fault Refusal :=
  readOperand 4 .none (.abs w) loadA s

/-- LDA $nnnn,X, 0xBD (R140). -/
def execLdaAbsX (w : Addr) (s : State) : Host.Outcome State Fault Refusal :=
  readOperand 4 .page (.absX w) loadA s

/-- LDA $nnnn,Y, 0xB9 (R140). -/
def execLdaAbsY (w : Addr) (s : State) : Host.Outcome State Fault Refusal :=
  readOperand 4 .page (.absY w) loadA s

/-- LDA ($nn,X), 0xA1 (R140). -/
def execLdaIndX (b : Byte) (s : State) : Host.Outcome State Fault Refusal :=
  readOperand 6 .none (.indX b) loadA s

/-- LDA ($nn),Y, 0xB1 (R140). -/
def execLdaIndY (b : Byte) (s : State) : Host.Outcome State Fault Refusal :=
  readOperand 5 .page (.indY b) loadA s

/-- LDX #$nn, 0xA2 (R141). -/
def execLdxImm (v : Byte) (s : State) : Host.Outcome State Fault Refusal :=
  internal 2 (loadX v) s

/-- LDX $nn, 0xA6 (R141). -/
def execLdxZp (b : Byte) (s : State) : Host.Outcome State Fault Refusal :=
  readOperand 3 .none (.zp b) loadX s

/-- LDX $nn,Y, 0xB6 (R141). -/
def execLdxZpY (b : Byte) (s : State) : Host.Outcome State Fault Refusal :=
  readOperand 4 .none (.zpY b) loadX s

/-- LDX $nnnn, 0xAE (R141). -/
def execLdxAbs (w : Addr) (s : State) : Host.Outcome State Fault Refusal :=
  readOperand 4 .none (.abs w) loadX s

/-- LDX $nnnn,Y, 0xBE (R141). -/
def execLdxAbsY (w : Addr) (s : State) : Host.Outcome State Fault Refusal :=
  readOperand 4 .page (.absY w) loadX s

/-- LDY #$nn, 0xA0 (R142). -/
def execLdyImm (v : Byte) (s : State) : Host.Outcome State Fault Refusal :=
  internal 2 (loadY v) s

/-- LDY $nn, 0xA4 (R142). -/
def execLdyZp (b : Byte) (s : State) : Host.Outcome State Fault Refusal :=
  readOperand 3 .none (.zp b) loadY s

/-- LDY $nn,X, 0xB4 (R142). -/
def execLdyZpX (b : Byte) (s : State) : Host.Outcome State Fault Refusal :=
  readOperand 4 .none (.zpX b) loadY s

/-- LDY $nnnn, 0xAC (R142). -/
def execLdyAbs (w : Addr) (s : State) : Host.Outcome State Fault Refusal :=
  readOperand 4 .none (.abs w) loadY s

/-- LDY $nnnn,X, 0xBC (R142). -/
def execLdyAbsX (w : Addr) (s : State) : Host.Outcome State Fault Refusal :=
  readOperand 4 .page (.absX w) loadY s

/-- STA $nn, 0x85 (R143). -/
def execStaZp (b : Byte) (s : State) : Host.Outcome State Fault Refusal :=
  storeOperand 3 (.zp b) s.a s

/-- STA $nn,X, 0x95 (R143). -/
def execStaZpX (b : Byte) (s : State) : Host.Outcome State Fault Refusal :=
  storeOperand 4 (.zpX b) s.a s

/-- STA $nnnn, 0x8D (R143). -/
def execStaAbs (w : Addr) (s : State) : Host.Outcome State Fault Refusal :=
  storeOperand 4 (.abs w) s.a s

/-- STA $nnnn,X, 0x9D (R143). -/
def execStaAbsX (w : Addr) (s : State) : Host.Outcome State Fault Refusal :=
  storeOperand 5 (.absX w) s.a s

/-- STA $nnnn,Y, 0x99 (R143). -/
def execStaAbsY (w : Addr) (s : State) : Host.Outcome State Fault Refusal :=
  storeOperand 5 (.absY w) s.a s

/-- STA ($nn,X), 0x81 (R143). -/
def execStaIndX (b : Byte) (s : State) : Host.Outcome State Fault Refusal :=
  storeOperand 6 (.indX b) s.a s

/-- STA ($nn),Y, 0x91 (R143). -/
def execStaIndY (b : Byte) (s : State) : Host.Outcome State Fault Refusal :=
  storeOperand 6 (.indY b) s.a s

/-- STX $nn, 0x86 (R144). -/
def execStxZp (b : Byte) (s : State) : Host.Outcome State Fault Refusal :=
  storeOperand 3 (.zp b) s.x s

/-- STX $nn,Y, 0x96 (R144). -/
def execStxZpY (b : Byte) (s : State) : Host.Outcome State Fault Refusal :=
  storeOperand 4 (.zpY b) s.x s

/-- STX $nnnn, 0x8E (R144). -/
def execStxAbs (w : Addr) (s : State) : Host.Outcome State Fault Refusal :=
  storeOperand 4 (.abs w) s.x s

/-- STY $nn, 0x84 (R145). -/
def execStyZp (b : Byte) (s : State) : Host.Outcome State Fault Refusal :=
  storeOperand 3 (.zp b) s.y s

/-- STY $nn,X, 0x94 (R145). -/
def execStyZpX (b : Byte) (s : State) : Host.Outcome State Fault Refusal :=
  storeOperand 4 (.zpX b) s.y s

/-- STY $nnnn, 0x8C (R145). -/
def execStyAbs (w : Addr) (s : State) : Host.Outcome State Fault Refusal :=
  storeOperand 4 (.abs w) s.y s

/-- TAX, 0xAA (R146). -/
def execTax (s : State) : Host.Outcome State Fault Refusal :=
  internal 2 (fun s => loadX s.a s) s

/-- TAY, 0xA8 (R147). -/
def execTay (s : State) : Host.Outcome State Fault Refusal :=
  internal 2 (fun s => loadY s.a s) s

/-- TXA, 0x8A (R148). -/
def execTxa (s : State) : Host.Outcome State Fault Refusal :=
  internal 2 (fun s => loadA s.x s) s

/-- TYA, 0x98 (R149). -/
def execTya (s : State) : Host.Outcome State Fault Refusal :=
  internal 2 (fun s => loadA s.y s) s

/-- TSX, 0xBA (R150). -/
def execTsx (s : State) : Host.Outcome State Fault Refusal :=
  internal 2 (fun s => loadX s.sp s) s

/-- TXS, 0x9A (R151). -/
def execTxs (s : State) : Host.Outcome State Fault Refusal :=
  internal 2 (fun s => { s with sp := s.x }) s

end Sys2Proof.Machine
end

