-- ==== Sys2Proof/Machine/Logic.lean ====
section
/-! DEFINITION. AND, ORA, EOR and BIT (43_logic.md). -/

namespace Sys2Proof.Machine

/-- `A <- A & m; setZN(A)` (R180). -/
def andA (m : Byte) (s : State) : State := loadA (s.a &&& m) s

/-- `A <- A | m; setZN(A)` (R181). -/
def oraA (m : Byte) (s : State) : State := loadA (s.a ||| m) s

/-- `A <- A ^ m; setZN(A)` (R182). -/
def eorA (m : Byte) (s : State) : State := loadA (s.a ^^^ m) s

/-- BIT's flags; A is not written (R183). -/
def testA (m : Byte) (s : State) : State := { s with flags := bitTest s.a m s.flags }

/-- AND #$nn, 0x29 (R180). -/
def execAndImm (v : Byte) (s : State) : Host.Outcome State Fault Refusal :=
  internal 2 (andA v) s

/-- AND $nn, 0x25 (R180). -/
def execAndZp (b : Byte) (s : State) : Host.Outcome State Fault Refusal :=
  readOperand 3 .none (.zp b) andA s

/-- AND $nn,X, 0x35 (R180). -/
def execAndZpX (b : Byte) (s : State) : Host.Outcome State Fault Refusal :=
  readOperand 4 .none (.zpX b) andA s

/-- AND $nnnn, 0x2D (R180). -/
def execAndAbs (w : Addr) (s : State) : Host.Outcome State Fault Refusal :=
  readOperand 4 .none (.abs w) andA s

/-- AND $nnnn,X, 0x3D (R180). -/
def execAndAbsX (w : Addr) (s : State) : Host.Outcome State Fault Refusal :=
  readOperand 4 .page (.absX w) andA s

/-- AND $nnnn,Y, 0x39 (R180). -/
def execAndAbsY (w : Addr) (s : State) : Host.Outcome State Fault Refusal :=
  readOperand 4 .page (.absY w) andA s

/-- AND ($nn,X), 0x21 (R180). -/
def execAndIndX (b : Byte) (s : State) : Host.Outcome State Fault Refusal :=
  readOperand 6 .none (.indX b) andA s

/-- AND ($nn),Y, 0x31 (R180). -/
def execAndIndY (b : Byte) (s : State) : Host.Outcome State Fault Refusal :=
  readOperand 5 .page (.indY b) andA s

/-- ORA #$nn, 0x09 (R181). -/
def execOraImm (v : Byte) (s : State) : Host.Outcome State Fault Refusal :=
  internal 2 (oraA v) s

/-- ORA $nn, 0x05 (R181). -/
def execOraZp (b : Byte) (s : State) : Host.Outcome State Fault Refusal :=
  readOperand 3 .none (.zp b) oraA s

/-- ORA $nn,X, 0x15 (R181). -/
def execOraZpX (b : Byte) (s : State) : Host.Outcome State Fault Refusal :=
  readOperand 4 .none (.zpX b) oraA s

/-- ORA $nnnn, 0x0D (R181). -/
def execOraAbs (w : Addr) (s : State) : Host.Outcome State Fault Refusal :=
  readOperand 4 .none (.abs w) oraA s

/-- ORA $nnnn,X, 0x1D (R181). -/
def execOraAbsX (w : Addr) (s : State) : Host.Outcome State Fault Refusal :=
  readOperand 4 .page (.absX w) oraA s

/-- ORA $nnnn,Y, 0x19 (R181). -/
def execOraAbsY (w : Addr) (s : State) : Host.Outcome State Fault Refusal :=
  readOperand 4 .page (.absY w) oraA s

/-- ORA ($nn,X), 0x01 (R181). -/
def execOraIndX (b : Byte) (s : State) : Host.Outcome State Fault Refusal :=
  readOperand 6 .none (.indX b) oraA s

/-- ORA ($nn),Y, 0x11 (R181). -/
def execOraIndY (b : Byte) (s : State) : Host.Outcome State Fault Refusal :=
  readOperand 5 .page (.indY b) oraA s

/-- EOR #$nn, 0x49 (R182). -/
def execEorImm (v : Byte) (s : State) : Host.Outcome State Fault Refusal :=
  internal 2 (eorA v) s

/-- EOR $nn, 0x45 (R182). -/
def execEorZp (b : Byte) (s : State) : Host.Outcome State Fault Refusal :=
  readOperand 3 .none (.zp b) eorA s

/-- EOR $nn,X, 0x55 (R182). -/
def execEorZpX (b : Byte) (s : State) : Host.Outcome State Fault Refusal :=
  readOperand 4 .none (.zpX b) eorA s

/-- EOR $nnnn, 0x4D (R182). -/
def execEorAbs (w : Addr) (s : State) : Host.Outcome State Fault Refusal :=
  readOperand 4 .none (.abs w) eorA s

/-- EOR $nnnn,X, 0x5D (R182). -/
def execEorAbsX (w : Addr) (s : State) : Host.Outcome State Fault Refusal :=
  readOperand 4 .page (.absX w) eorA s

/-- EOR $nnnn,Y, 0x59 (R182). -/
def execEorAbsY (w : Addr) (s : State) : Host.Outcome State Fault Refusal :=
  readOperand 4 .page (.absY w) eorA s

/-- EOR ($nn,X), 0x41 (R182). -/
def execEorIndX (b : Byte) (s : State) : Host.Outcome State Fault Refusal :=
  readOperand 6 .none (.indX b) eorA s

/-- EOR ($nn),Y, 0x51 (R182). -/
def execEorIndY (b : Byte) (s : State) : Host.Outcome State Fault Refusal :=
  readOperand 5 .page (.indY b) eorA s

/-- BIT $nn, 0x24 (R183). -/
def execBitZp (b : Byte) (s : State) : Host.Outcome State Fault Refusal :=
  readOperand 3 .none (.zp b) testA s

/-- BIT $nnnn, 0x2C (R183). -/
def execBitAbs (w : Addr) (s : State) : Host.Outcome State Fault Refusal :=
  readOperand 4 .none (.abs w) testA s

end Sys2Proof.Machine
end

