-- ==== Sys2Proof/Machine/Shift.lean ====
section
/-! DEFINITION. Shifts and rotates (44_shift_rotate.md): on A, or read-modify-write on memory (R118). -/

namespace Sys2Proof.Machine

/-- ASL A, 0x0A (R190). -/
def execAslAcc (s : State) : Host.Outcome State Fault Refusal :=
  modifyAcc 2 asl s

/-- ASL $nn, 0x06 (R190). -/
def execAslZp (b : Byte) (s : State) : Host.Outcome State Fault Refusal :=
  modifyOperand 5 (.zp b) asl s

/-- ASL $nn,X, 0x16 (R190). -/
def execAslZpX (b : Byte) (s : State) : Host.Outcome State Fault Refusal :=
  modifyOperand 6 (.zpX b) asl s

/-- ASL $nnnn, 0x0E (R190). -/
def execAslAbs (w : Addr) (s : State) : Host.Outcome State Fault Refusal :=
  modifyOperand 6 (.abs w) asl s

/-- ASL $nnnn,X, 0x1E (R190). -/
def execAslAbsX (w : Addr) (s : State) : Host.Outcome State Fault Refusal :=
  modifyOperand 7 (.absX w) asl s

/-- LSR A, 0x4A (R191). -/
def execLsrAcc (s : State) : Host.Outcome State Fault Refusal :=
  modifyAcc 2 lsr s

/-- LSR $nn, 0x46 (R191). -/
def execLsrZp (b : Byte) (s : State) : Host.Outcome State Fault Refusal :=
  modifyOperand 5 (.zp b) lsr s

/-- LSR $nn,X, 0x56 (R191). -/
def execLsrZpX (b : Byte) (s : State) : Host.Outcome State Fault Refusal :=
  modifyOperand 6 (.zpX b) lsr s

/-- LSR $nnnn, 0x4E (R191). -/
def execLsrAbs (w : Addr) (s : State) : Host.Outcome State Fault Refusal :=
  modifyOperand 6 (.abs w) lsr s

/-- LSR $nnnn,X, 0x5E (R191). -/
def execLsrAbsX (w : Addr) (s : State) : Host.Outcome State Fault Refusal :=
  modifyOperand 7 (.absX w) lsr s

/-- ROL A, 0x2A (R192). -/
def execRolAcc (s : State) : Host.Outcome State Fault Refusal :=
  modifyAcc 2 rol s

/-- ROL $nn, 0x26 (R192). -/
def execRolZp (b : Byte) (s : State) : Host.Outcome State Fault Refusal :=
  modifyOperand 5 (.zp b) rol s

/-- ROL $nn,X, 0x36 (R192). -/
def execRolZpX (b : Byte) (s : State) : Host.Outcome State Fault Refusal :=
  modifyOperand 6 (.zpX b) rol s

/-- ROL $nnnn, 0x2E (R192). -/
def execRolAbs (w : Addr) (s : State) : Host.Outcome State Fault Refusal :=
  modifyOperand 6 (.abs w) rol s

/-- ROL $nnnn,X, 0x3E (R192). -/
def execRolAbsX (w : Addr) (s : State) : Host.Outcome State Fault Refusal :=
  modifyOperand 7 (.absX w) rol s

/-- ROR A, 0x6A (R193). -/
def execRorAcc (s : State) : Host.Outcome State Fault Refusal :=
  modifyAcc 2 ror s

/-- ROR $nn, 0x66 (R193). -/
def execRorZp (b : Byte) (s : State) : Host.Outcome State Fault Refusal :=
  modifyOperand 5 (.zp b) ror s

/-- ROR $nn,X, 0x76 (R193). -/
def execRorZpX (b : Byte) (s : State) : Host.Outcome State Fault Refusal :=
  modifyOperand 6 (.zpX b) ror s

/-- ROR $nnnn, 0x6E (R193). -/
def execRorAbs (w : Addr) (s : State) : Host.Outcome State Fault Refusal :=
  modifyOperand 6 (.abs w) ror s

/-- ROR $nnnn,X, 0x7E (R193). -/
def execRorAbsX (w : Addr) (s : State) : Host.Outcome State Fault Refusal :=
  modifyOperand 7 (.absX w) ror s

end Sys2Proof.Machine
end

