-- ==== Sys2Proof/Machine/Stack.lean ====
section
/-! DEFINITION. Stack, flag and no-op instructions (48_stack_flag_nop.md). -/

namespace Sys2Proof.Machine

/-- PHA, 0x48 (R250). -/
def execPha (s : State) : Host.Outcome State Fault Refusal :=
  internal 3 (fun s => push s.a s) s

/-- PLA, 0x68 (R251). -/
def execPla (s : State) : Host.Outcome State Fault Refusal :=
  complete ((pull s).andThen fun v s => .done 4 (loadA v s))

/-- PHP, 0x08 (R252). -/
def execPhp (s : State) : Host.Outcome State Fault Refusal :=
  internal 3 (fun s => push (pack s.flags true true) s) s

/-- PLP, 0x28 (R253). -/
def execPlp (s : State) : Host.Outcome State Fault Refusal :=
  complete ((pull s).andThen fun p s => .done 4 { s with flags := unpack p })

/-- CLC, 0x18 (R254). -/
def execClc (s : State) : Host.Outcome State Fault Refusal :=
  internal 2 (fun s => { s with flags := { s.flags with c := false } }) s

/-- SEC, 0x38 (R255). -/
def execSec (s : State) : Host.Outcome State Fault Refusal :=
  internal 2 (fun s => { s with flags := { s.flags with c := true } }) s

/-- CLI, 0x58 (R256). -/
def execCli (s : State) : Host.Outcome State Fault Refusal :=
  internal 2 (fun s => { s with flags := { s.flags with i := false } }) s

/-- SEI, 0x78 (R257). -/
def execSei (s : State) : Host.Outcome State Fault Refusal :=
  internal 2 (fun s => { s with flags := { s.flags with i := true } }) s

/-- CLD, 0xD8 (R258). -/
def execCld (s : State) : Host.Outcome State Fault Refusal :=
  internal 2 (fun s => { s with flags := { s.flags with d := false } }) s

/-- SED, 0xF8 (R259). -/
def execSed (s : State) : Host.Outcome State Fault Refusal :=
  internal 2 (fun s => { s with flags := { s.flags with d := true } }) s

/-- CLV, 0xB8 (R260). -/
def execClv (s : State) : Host.Outcome State Fault Refusal :=
  internal 2 (fun s => { s with flags := { s.flags with v := false } }) s

/-- NOP, 0xEA (R261). -/
def execNop (s : State) : Host.Outcome State Fault Refusal :=
  internal 2 (fun s => s) s

end Sys2Proof.Machine
end

