-- ==== Sys2Proof/Syntax.lean ====
section
/-! DEFINITION. The instructions: one constructor per row of the opcode table (30_encoding.md R85), each with the operand of
its addressing mode (R81, R82): `v` an immediate byte, `b` a zero-page address or pointer address, `w` a 16-bit operand, `off` a
signed branch offset. The comment of a constructor gives the row's opcode, syntax and semantics rule. -/

namespace Sys2Proof

inductive Instr where
  | ldaImm (v : Byte)  -- 0xA9 LDA #$nn, R140
  | ldaZp (b : Byte)  -- 0xA5 LDA $nn, R140
  | ldaZpX (b : Byte)  -- 0xB5 LDA $nn,X, R140
  | ldaAbs (w : Addr)  -- 0xAD LDA $nnnn, R140
  | ldaAbsX (w : Addr)  -- 0xBD LDA $nnnn,X, R140
  | ldaAbsY (w : Addr)  -- 0xB9 LDA $nnnn,Y, R140
  | ldaIndX (b : Byte)  -- 0xA1 LDA ($nn,X), R140
  | ldaIndY (b : Byte)  -- 0xB1 LDA ($nn),Y, R140
  | ldxImm (v : Byte)  -- 0xA2 LDX #$nn, R141
  | ldxZp (b : Byte)  -- 0xA6 LDX $nn, R141
  | ldxZpY (b : Byte)  -- 0xB6 LDX $nn,Y, R141
  | ldxAbs (w : Addr)  -- 0xAE LDX $nnnn, R141
  | ldxAbsY (w : Addr)  -- 0xBE LDX $nnnn,Y, R141
  | ldyImm (v : Byte)  -- 0xA0 LDY #$nn, R142
  | ldyZp (b : Byte)  -- 0xA4 LDY $nn, R142
  | ldyZpX (b : Byte)  -- 0xB4 LDY $nn,X, R142
  | ldyAbs (w : Addr)  -- 0xAC LDY $nnnn, R142
  | ldyAbsX (w : Addr)  -- 0xBC LDY $nnnn,X, R142
  | staZp (b : Byte)  -- 0x85 STA $nn, R143
  | staZpX (b : Byte)  -- 0x95 STA $nn,X, R143
  | staAbs (w : Addr)  -- 0x8D STA $nnnn, R143
  | staAbsX (w : Addr)  -- 0x9D STA $nnnn,X, R143
  | staAbsY (w : Addr)  -- 0x99 STA $nnnn,Y, R143
  | staIndX (b : Byte)  -- 0x81 STA ($nn,X), R143
  | staIndY (b : Byte)  -- 0x91 STA ($nn),Y, R143
  | stxZp (b : Byte)  -- 0x86 STX $nn, R144
  | stxZpY (b : Byte)  -- 0x96 STX $nn,Y, R144
  | stxAbs (w : Addr)  -- 0x8E STX $nnnn, R144
  | styZp (b : Byte)  -- 0x84 STY $nn, R145
  | styZpX (b : Byte)  -- 0x94 STY $nn,X, R145
  | styAbs (w : Addr)  -- 0x8C STY $nnnn, R145
  | tax  -- 0xAA TAX, R146
  | tay  -- 0xA8 TAY, R147
  | txa  -- 0x8A TXA, R148
  | tya  -- 0x98 TYA, R149
  | tsx  -- 0xBA TSX, R150
  | txs  -- 0x9A TXS, R151
  | adcImm (v : Byte)  -- 0x69 ADC #$nn, R160
  | adcZp (b : Byte)  -- 0x65 ADC $nn, R160
  | adcZpX (b : Byte)  -- 0x75 ADC $nn,X, R160
  | adcAbs (w : Addr)  -- 0x6D ADC $nnnn, R160
  | adcAbsX (w : Addr)  -- 0x7D ADC $nnnn,X, R160
  | adcAbsY (w : Addr)  -- 0x79 ADC $nnnn,Y, R160
  | adcIndX (b : Byte)  -- 0x61 ADC ($nn,X), R160
  | adcIndY (b : Byte)  -- 0x71 ADC ($nn),Y, R160
  | sbcImm (v : Byte)  -- 0xE9 SBC #$nn, R163
  | sbcZp (b : Byte)  -- 0xE5 SBC $nn, R163
  | sbcZpX (b : Byte)  -- 0xF5 SBC $nn,X, R163
  | sbcAbs (w : Addr)  -- 0xED SBC $nnnn, R163
  | sbcAbsX (w : Addr)  -- 0xFD SBC $nnnn,X, R163
  | sbcAbsY (w : Addr)  -- 0xF9 SBC $nnnn,Y, R163
  | sbcIndX (b : Byte)  -- 0xE1 SBC ($nn,X), R163
  | sbcIndY (b : Byte)  -- 0xF1 SBC ($nn),Y, R163
  | andImm (v : Byte)  -- 0x29 AND #$nn, R180
  | andZp (b : Byte)  -- 0x25 AND $nn, R180
  | andZpX (b : Byte)  -- 0x35 AND $nn,X, R180
  | andAbs (w : Addr)  -- 0x2D AND $nnnn, R180
  | andAbsX (w : Addr)  -- 0x3D AND $nnnn,X, R180
  | andAbsY (w : Addr)  -- 0x39 AND $nnnn,Y, R180
  | andIndX (b : Byte)  -- 0x21 AND ($nn,X), R180
  | andIndY (b : Byte)  -- 0x31 AND ($nn),Y, R180
  | oraImm (v : Byte)  -- 0x09 ORA #$nn, R181
  | oraZp (b : Byte)  -- 0x05 ORA $nn, R181
  | oraZpX (b : Byte)  -- 0x15 ORA $nn,X, R181
  | oraAbs (w : Addr)  -- 0x0D ORA $nnnn, R181
  | oraAbsX (w : Addr)  -- 0x1D ORA $nnnn,X, R181
  | oraAbsY (w : Addr)  -- 0x19 ORA $nnnn,Y, R181
  | oraIndX (b : Byte)  -- 0x01 ORA ($nn,X), R181
  | oraIndY (b : Byte)  -- 0x11 ORA ($nn),Y, R181
  | eorImm (v : Byte)  -- 0x49 EOR #$nn, R182
  | eorZp (b : Byte)  -- 0x45 EOR $nn, R182
  | eorZpX (b : Byte)  -- 0x55 EOR $nn,X, R182
  | eorAbs (w : Addr)  -- 0x4D EOR $nnnn, R182
  | eorAbsX (w : Addr)  -- 0x5D EOR $nnnn,X, R182
  | eorAbsY (w : Addr)  -- 0x59 EOR $nnnn,Y, R182
  | eorIndX (b : Byte)  -- 0x41 EOR ($nn,X), R182
  | eorIndY (b : Byte)  -- 0x51 EOR ($nn),Y, R182
  | bitZp (b : Byte)  -- 0x24 BIT $nn, R183
  | bitAbs (w : Addr)  -- 0x2C BIT $nnnn, R183
  | aslAcc  -- 0x0A ASL A, R190
  | aslZp (b : Byte)  -- 0x06 ASL $nn, R190
  | aslZpX (b : Byte)  -- 0x16 ASL $nn,X, R190
  | aslAbs (w : Addr)  -- 0x0E ASL $nnnn, R190
  | aslAbsX (w : Addr)  -- 0x1E ASL $nnnn,X, R190
  | lsrAcc  -- 0x4A LSR A, R191
  | lsrZp (b : Byte)  -- 0x46 LSR $nn, R191
  | lsrZpX (b : Byte)  -- 0x56 LSR $nn,X, R191
  | lsrAbs (w : Addr)  -- 0x4E LSR $nnnn, R191
  | lsrAbsX (w : Addr)  -- 0x5E LSR $nnnn,X, R191
  | rolAcc  -- 0x2A ROL A, R192
  | rolZp (b : Byte)  -- 0x26 ROL $nn, R192
  | rolZpX (b : Byte)  -- 0x36 ROL $nn,X, R192
  | rolAbs (w : Addr)  -- 0x2E ROL $nnnn, R192
  | rolAbsX (w : Addr)  -- 0x3E ROL $nnnn,X, R192
  | rorAcc  -- 0x6A ROR A, R193
  | rorZp (b : Byte)  -- 0x66 ROR $nn, R193
  | rorZpX (b : Byte)  -- 0x76 ROR $nn,X, R193
  | rorAbs (w : Addr)  -- 0x6E ROR $nnnn, R193
  | rorAbsX (w : Addr)  -- 0x7E ROR $nnnn,X, R193
  | cmpImm (v : Byte)  -- 0xC9 CMP #$nn, R201
  | cmpZp (b : Byte)  -- 0xC5 CMP $nn, R201
  | cmpZpX (b : Byte)  -- 0xD5 CMP $nn,X, R201
  | cmpAbs (w : Addr)  -- 0xCD CMP $nnnn, R201
  | cmpAbsX (w : Addr)  -- 0xDD CMP $nnnn,X, R201
  | cmpAbsY (w : Addr)  -- 0xD9 CMP $nnnn,Y, R201
  | cmpIndX (b : Byte)  -- 0xC1 CMP ($nn,X), R201
  | cmpIndY (b : Byte)  -- 0xD1 CMP ($nn),Y, R201
  | cpxImm (v : Byte)  -- 0xE0 CPX #$nn, R202
  | cpxZp (b : Byte)  -- 0xE4 CPX $nn, R202
  | cpxAbs (w : Addr)  -- 0xEC CPX $nnnn, R202
  | cpyImm (v : Byte)  -- 0xC0 CPY #$nn, R203
  | cpyZp (b : Byte)  -- 0xC4 CPY $nn, R203
  | cpyAbs (w : Addr)  -- 0xCC CPY $nnnn, R203
  | incZp (b : Byte)  -- 0xE6 INC $nn, R204
  | incZpX (b : Byte)  -- 0xF6 INC $nn,X, R204
  | incAbs (w : Addr)  -- 0xEE INC $nnnn, R204
  | incAbsX (w : Addr)  -- 0xFE INC $nnnn,X, R204
  | decZp (b : Byte)  -- 0xC6 DEC $nn, R205
  | decZpX (b : Byte)  -- 0xD6 DEC $nn,X, R205
  | decAbs (w : Addr)  -- 0xCE DEC $nnnn, R205
  | decAbsX (w : Addr)  -- 0xDE DEC $nnnn,X, R205
  | inx  -- 0xE8 INX, R206
  | iny  -- 0xC8 INY, R207
  | dex  -- 0xCA DEX, R208
  | dey  -- 0x88 DEY, R209
  | bcc (off : Byte)  -- 0x90 BCC $nnnn (target), R221
  | bcs (off : Byte)  -- 0xB0 BCS $nnnn (target), R222
  | beq (off : Byte)  -- 0xF0 BEQ $nnnn (target), R223
  | bne (off : Byte)  -- 0xD0 BNE $nnnn (target), R224
  | bmi (off : Byte)  -- 0x30 BMI $nnnn (target), R225
  | bpl (off : Byte)  -- 0x10 BPL $nnnn (target), R226
  | bvc (off : Byte)  -- 0x50 BVC $nnnn (target), R227
  | bvs (off : Byte)  -- 0x70 BVS $nnnn (target), R228
  | jmpAbs (w : Addr)  -- 0x4C JMP $nnnn, R240
  | jmpInd (w : Addr)  -- 0x6C JMP ($nnnn), R240
  | jsr (w : Addr)  -- 0x20 JSR $nnnn, R241
  | rts  -- 0x60 RTS, R242
  | pha  -- 0x48 PHA, R250
  | pla  -- 0x68 PLA, R251
  | php  -- 0x08 PHP, R252
  | plp  -- 0x28 PLP, R253
  | clc  -- 0x18 CLC, R254
  | sec  -- 0x38 SEC, R255
  | cli  -- 0x58 CLI, R256
  | sei  -- 0x78 SEI, R257
  | cld  -- 0xD8 CLD, R258
  | sed  -- 0xF8 SED, R259
  | clv  -- 0xB8 CLV, R260
  | nop  -- 0xEA NOP, R261
  | brk  -- 0x00 BRK, R270
  | rti  -- 0x40 RTI, R271
deriving DecidableEq, Repr

end Sys2Proof
end

