-- ==== Sys2Proof/Decode.lean ====
section
/-! DEFINITION. Decoding, total on any bytes and rejecting by name, and the encoder (30_encoding.md R80 to R87). -/

namespace Sys2Proof

open Sys2Proof.Machine (lo hi a16)

/-- The 13 addressing modes (R82). -/
inductive Mode where
  | implied | accumulator | immediate | zeroPage | zeroPageX | zeroPageY | absolute | absoluteX | absoluteY
  | indirect | indirectX | indirectY | relative
deriving DecidableEq, Repr

/-- Operand bytes after the opcode (R82). -/
def Mode.operandBytes (m : Mode) : Nat :=
  match m with
  | .implied | .accumulator => 0
  | .immediate | .zeroPage | .zeroPageX | .zeroPageY | .indirectX | .indirectY | .relative => 1
  | .absolute | .absoluteX | .absoluteY | .indirect => 2

/-- Why bytes are no instruction. -/
inductive DecodeError where
  /-- There is no opcode byte. -/
  | noBytes
  /-- The first byte is one of the 105 opcodes of R87. -/
  | illegalOpcode (op : Byte)
  /-- Operand bytes are missing. -/
  | truncated (op : Byte)
deriving DecidableEq, Repr

/-- The dispatch table of R85: the instruction with opcode `op` and operand bytes `b1` and `b2` (R81: low byte first; a byte the
mode does not have is ignored); none for the opcodes of R87. -/
def assemble (op b1 b2 : Byte) : Option Instr :=
  match op.toNat with
  | 0x00 => some .brk
  | 0x01 => some (.oraIndX b1)
  | 0x05 => some (.oraZp b1)
  | 0x06 => some (.aslZp b1)
  | 0x08 => some .php
  | 0x09 => some (.oraImm b1)
  | 0x0A => some .aslAcc
  | 0x0D => some (.oraAbs (a16 b1 b2))
  | 0x0E => some (.aslAbs (a16 b1 b2))
  | 0x10 => some (.bpl b1)
  | 0x11 => some (.oraIndY b1)
  | 0x15 => some (.oraZpX b1)
  | 0x16 => some (.aslZpX b1)
  | 0x18 => some .clc
  | 0x19 => some (.oraAbsY (a16 b1 b2))
  | 0x1D => some (.oraAbsX (a16 b1 b2))
  | 0x1E => some (.aslAbsX (a16 b1 b2))
  | 0x20 => some (.jsr (a16 b1 b2))
  | 0x21 => some (.andIndX b1)
  | 0x24 => some (.bitZp b1)
  | 0x25 => some (.andZp b1)
  | 0x26 => some (.rolZp b1)
  | 0x28 => some .plp
  | 0x29 => some (.andImm b1)
  | 0x2A => some .rolAcc
  | 0x2C => some (.bitAbs (a16 b1 b2))
  | 0x2D => some (.andAbs (a16 b1 b2))
  | 0x2E => some (.rolAbs (a16 b1 b2))
  | 0x30 => some (.bmi b1)
  | 0x31 => some (.andIndY b1)
  | 0x35 => some (.andZpX b1)
  | 0x36 => some (.rolZpX b1)
  | 0x38 => some .sec
  | 0x39 => some (.andAbsY (a16 b1 b2))
  | 0x3D => some (.andAbsX (a16 b1 b2))
  | 0x3E => some (.rolAbsX (a16 b1 b2))
  | 0x40 => some .rti
  | 0x41 => some (.eorIndX b1)
  | 0x45 => some (.eorZp b1)
  | 0x46 => some (.lsrZp b1)
  | 0x48 => some .pha
  | 0x49 => some (.eorImm b1)
  | 0x4A => some .lsrAcc
  | 0x4C => some (.jmpAbs (a16 b1 b2))
  | 0x4D => some (.eorAbs (a16 b1 b2))
  | 0x4E => some (.lsrAbs (a16 b1 b2))
  | 0x50 => some (.bvc b1)
  | 0x51 => some (.eorIndY b1)
  | 0x55 => some (.eorZpX b1)
  | 0x56 => some (.lsrZpX b1)
  | 0x58 => some .cli
  | 0x59 => some (.eorAbsY (a16 b1 b2))
  | 0x5D => some (.eorAbsX (a16 b1 b2))
  | 0x5E => some (.lsrAbsX (a16 b1 b2))
  | 0x60 => some .rts
  | 0x61 => some (.adcIndX b1)
  | 0x65 => some (.adcZp b1)
  | 0x66 => some (.rorZp b1)
  | 0x68 => some .pla
  | 0x69 => some (.adcImm b1)
  | 0x6A => some .rorAcc
  | 0x6C => some (.jmpInd (a16 b1 b2))
  | 0x6D => some (.adcAbs (a16 b1 b2))
  | 0x6E => some (.rorAbs (a16 b1 b2))
  | 0x70 => some (.bvs b1)
  | 0x71 => some (.adcIndY b1)
  | 0x75 => some (.adcZpX b1)
  | 0x76 => some (.rorZpX b1)
  | 0x78 => some .sei
  | 0x79 => some (.adcAbsY (a16 b1 b2))
  | 0x7D => some (.adcAbsX (a16 b1 b2))
  | 0x7E => some (.rorAbsX (a16 b1 b2))
  | 0x81 => some (.staIndX b1)
  | 0x84 => some (.styZp b1)
  | 0x85 => some (.staZp b1)
  | 0x86 => some (.stxZp b1)
  | 0x88 => some .dey
  | 0x8A => some .txa
  | 0x8C => some (.styAbs (a16 b1 b2))
  | 0x8D => some (.staAbs (a16 b1 b2))
  | 0x8E => some (.stxAbs (a16 b1 b2))
  | 0x90 => some (.bcc b1)
  | 0x91 => some (.staIndY b1)
  | 0x94 => some (.styZpX b1)
  | 0x95 => some (.staZpX b1)
  | 0x96 => some (.stxZpY b1)
  | 0x98 => some .tya
  | 0x99 => some (.staAbsY (a16 b1 b2))
  | 0x9A => some .txs
  | 0x9D => some (.staAbsX (a16 b1 b2))
  | 0xA0 => some (.ldyImm b1)
  | 0xA1 => some (.ldaIndX b1)
  | 0xA2 => some (.ldxImm b1)
  | 0xA4 => some (.ldyZp b1)
  | 0xA5 => some (.ldaZp b1)
  | 0xA6 => some (.ldxZp b1)
  | 0xA8 => some .tay
  | 0xA9 => some (.ldaImm b1)
  | 0xAA => some .tax
  | 0xAC => some (.ldyAbs (a16 b1 b2))
  | 0xAD => some (.ldaAbs (a16 b1 b2))
  | 0xAE => some (.ldxAbs (a16 b1 b2))
  | 0xB0 => some (.bcs b1)
  | 0xB1 => some (.ldaIndY b1)
  | 0xB4 => some (.ldyZpX b1)
  | 0xB5 => some (.ldaZpX b1)
  | 0xB6 => some (.ldxZpY b1)
  | 0xB8 => some .clv
  | 0xB9 => some (.ldaAbsY (a16 b1 b2))
  | 0xBA => some .tsx
  | 0xBC => some (.ldyAbsX (a16 b1 b2))
  | 0xBD => some (.ldaAbsX (a16 b1 b2))
  | 0xBE => some (.ldxAbsY (a16 b1 b2))
  | 0xC0 => some (.cpyImm b1)
  | 0xC1 => some (.cmpIndX b1)
  | 0xC4 => some (.cpyZp b1)
  | 0xC5 => some (.cmpZp b1)
  | 0xC6 => some (.decZp b1)
  | 0xC8 => some .iny
  | 0xC9 => some (.cmpImm b1)
  | 0xCA => some .dex
  | 0xCC => some (.cpyAbs (a16 b1 b2))
  | 0xCD => some (.cmpAbs (a16 b1 b2))
  | 0xCE => some (.decAbs (a16 b1 b2))
  | 0xD0 => some (.bne b1)
  | 0xD1 => some (.cmpIndY b1)
  | 0xD5 => some (.cmpZpX b1)
  | 0xD6 => some (.decZpX b1)
  | 0xD8 => some .cld
  | 0xD9 => some (.cmpAbsY (a16 b1 b2))
  | 0xDD => some (.cmpAbsX (a16 b1 b2))
  | 0xDE => some (.decAbsX (a16 b1 b2))
  | 0xE0 => some (.cpxImm b1)
  | 0xE1 => some (.sbcIndX b1)
  | 0xE4 => some (.cpxZp b1)
  | 0xE5 => some (.sbcZp b1)
  | 0xE6 => some (.incZp b1)
  | 0xE8 => some .inx
  | 0xE9 => some (.sbcImm b1)
  | 0xEA => some .nop
  | 0xEC => some (.cpxAbs (a16 b1 b2))
  | 0xED => some (.sbcAbs (a16 b1 b2))
  | 0xEE => some (.incAbs (a16 b1 b2))
  | 0xF0 => some (.beq b1)
  | 0xF1 => some (.sbcIndY b1)
  | 0xF5 => some (.sbcZpX b1)
  | 0xF6 => some (.incZpX b1)
  | 0xF8 => some .sed
  | 0xF9 => some (.sbcAbsY (a16 b1 b2))
  | 0xFD => some (.sbcAbsX (a16 b1 b2))
  | 0xFE => some (.incAbsX (a16 b1 b2))
  | _ => none

/-- The addressing mode of an instruction (R85). -/
def Instr.mode (i : Instr) : Mode :=
  match i with
  | .tax | .tay | .txa | .tya | .tsx | .txs | .inx | .iny | .dex | .dey | .rts | .pha | .pla | .php | .plp | .clc
  | .sec | .cli | .sei | .cld | .sed | .clv | .nop | .brk | .rti => .implied
  | .aslAcc | .lsrAcc | .rolAcc | .rorAcc => .accumulator
  | .ldaImm _ | .ldxImm _ | .ldyImm _ | .adcImm _ | .sbcImm _ | .andImm _ | .oraImm _ | .eorImm _ | .cmpImm _
  | .cpxImm _ | .cpyImm _ => .immediate
  | .ldaZp _ | .ldxZp _ | .ldyZp _ | .staZp _ | .stxZp _ | .styZp _ | .adcZp _ | .sbcZp _ | .andZp _ | .oraZp _
  | .eorZp _ | .bitZp _ | .aslZp _ | .lsrZp _ | .rolZp _ | .rorZp _ | .cmpZp _ | .cpxZp _ | .cpyZp _ | .incZp _
  | .decZp _ => .zeroPage
  | .ldaZpX _ | .ldyZpX _ | .staZpX _ | .styZpX _ | .adcZpX _ | .sbcZpX _ | .andZpX _ | .oraZpX _ | .eorZpX _
  | .aslZpX _ | .lsrZpX _ | .rolZpX _ | .rorZpX _ | .cmpZpX _ | .incZpX _ | .decZpX _ => .zeroPageX
  | .ldxZpY _ | .stxZpY _ => .zeroPageY
  | .ldaAbs _ | .ldxAbs _ | .ldyAbs _ | .staAbs _ | .stxAbs _ | .styAbs _ | .adcAbs _ | .sbcAbs _ | .andAbs _
  | .oraAbs _ | .eorAbs _ | .bitAbs _ | .aslAbs _ | .lsrAbs _ | .rolAbs _ | .rorAbs _ | .cmpAbs _ | .cpxAbs _
  | .cpyAbs _ | .incAbs _ | .decAbs _ | .jmpAbs _ | .jsr _ => .absolute
  | .ldaAbsX _ | .ldyAbsX _ | .staAbsX _ | .adcAbsX _ | .sbcAbsX _ | .andAbsX _ | .oraAbsX _ | .eorAbsX _
  | .aslAbsX _ | .lsrAbsX _ | .rolAbsX _ | .rorAbsX _ | .cmpAbsX _ | .incAbsX _ | .decAbsX _ => .absoluteX
  | .ldaAbsY _ | .ldxAbsY _ | .staAbsY _ | .adcAbsY _ | .sbcAbsY _ | .andAbsY _ | .oraAbsY _ | .eorAbsY _
  | .cmpAbsY _ => .absoluteY
  | .jmpInd _ => .indirect
  | .ldaIndX _ | .staIndX _ | .adcIndX _ | .sbcIndX _ | .andIndX _ | .oraIndX _ | .eorIndX _ | .cmpIndX _ => .indirectX
  | .ldaIndY _ | .staIndY _ | .adcIndY _ | .sbcIndY _ | .andIndY _ | .oraIndY _ | .eorIndY _ | .cmpIndY _ => .indirectY
  | .bcc _ | .bcs _ | .beq _ | .bne _ | .bmi _ | .bpl _ | .bvc _ | .bvs _ => .relative

/-- The mode an opcode selects, hence the instruction's length (R80); none for an illegal opcode (R87). -/
def opcodeMode (op : Byte) : Option Mode := (assemble op 0x00#8 0x00#8).map Instr.mode

/-- The table's answer as a decoding, with the bytes left over. -/
def decoded (op b1 b2 : Byte) (rest : List Byte) : Except DecodeError (Instr × List Byte) :=
  match assemble op b1 b2 with
  | some i => .ok (i, rest)
  | none => .error (.illegalOpcode op)

/-- Reads one instruction from the front of `bytes`. -/
def decode (bytes : List Byte) : Except DecodeError (Instr × List Byte) :=
  match bytes with
  | [] => .error .noBytes
  | op :: rest =>
    match opcodeMode op with
    | none => .error (.illegalOpcode op)
    | some m =>
      match m.operandBytes, rest with
      | 0, rest => decoded op 0x00#8 0x00#8 rest
      | 1, b1 :: rest => decoded op b1 0x00#8 rest
      | 2, b1 :: b2 :: rest => decoded op b1 b2 rest
      | _, _ => .error (.truncated op)

/-- The three bytes, lowest address first, of an instruction whose low `nbits` bits are those of `w` and whose other bits are 0. -/
def tableBytes (nbits w : Nat) : List Byte :=
  let v := w % 2 ^ nbits
  [BitVec.ofNat 8 v, BitVec.ofNat 8 (v / 256), BitVec.ofNat 8 (v / 65536)]

/-- The instruction the decoder reads from a word of spec/opcode_table.json, bit 0 the least significant bit of the first byte. -/
def decodeTableWord (nbits w : Nat) : Option Instr :=
  match decode (tableBytes nbits w) with
  | .ok (i, _) => some i
  | .error _ => none

/-- The bytes of an instruction (R81, R85): the opcode, then the operand bytes, low byte first. -/
def encode (i : Instr) : List Byte :=
  match i with
  | .ldaImm v => [0xA9#8, v]
  | .ldaZp b => [0xA5#8, b]
  | .ldaZpX b => [0xB5#8, b]
  | .ldaAbs w => [0xAD#8, lo w, hi w]
  | .ldaAbsX w => [0xBD#8, lo w, hi w]
  | .ldaAbsY w => [0xB9#8, lo w, hi w]
  | .ldaIndX b => [0xA1#8, b]
  | .ldaIndY b => [0xB1#8, b]
  | .ldxImm v => [0xA2#8, v]
  | .ldxZp b => [0xA6#8, b]
  | .ldxZpY b => [0xB6#8, b]
  | .ldxAbs w => [0xAE#8, lo w, hi w]
  | .ldxAbsY w => [0xBE#8, lo w, hi w]
  | .ldyImm v => [0xA0#8, v]
  | .ldyZp b => [0xA4#8, b]
  | .ldyZpX b => [0xB4#8, b]
  | .ldyAbs w => [0xAC#8, lo w, hi w]
  | .ldyAbsX w => [0xBC#8, lo w, hi w]
  | .staZp b => [0x85#8, b]
  | .staZpX b => [0x95#8, b]
  | .staAbs w => [0x8D#8, lo w, hi w]
  | .staAbsX w => [0x9D#8, lo w, hi w]
  | .staAbsY w => [0x99#8, lo w, hi w]
  | .staIndX b => [0x81#8, b]
  | .staIndY b => [0x91#8, b]
  | .stxZp b => [0x86#8, b]
  | .stxZpY b => [0x96#8, b]
  | .stxAbs w => [0x8E#8, lo w, hi w]
  | .styZp b => [0x84#8, b]
  | .styZpX b => [0x94#8, b]
  | .styAbs w => [0x8C#8, lo w, hi w]
  | .tax => [0xAA#8]
  | .tay => [0xA8#8]
  | .txa => [0x8A#8]
  | .tya => [0x98#8]
  | .tsx => [0xBA#8]
  | .txs => [0x9A#8]
  | .adcImm v => [0x69#8, v]
  | .adcZp b => [0x65#8, b]
  | .adcZpX b => [0x75#8, b]
  | .adcAbs w => [0x6D#8, lo w, hi w]
  | .adcAbsX w => [0x7D#8, lo w, hi w]
  | .adcAbsY w => [0x79#8, lo w, hi w]
  | .adcIndX b => [0x61#8, b]
  | .adcIndY b => [0x71#8, b]
  | .sbcImm v => [0xE9#8, v]
  | .sbcZp b => [0xE5#8, b]
  | .sbcZpX b => [0xF5#8, b]
  | .sbcAbs w => [0xED#8, lo w, hi w]
  | .sbcAbsX w => [0xFD#8, lo w, hi w]
  | .sbcAbsY w => [0xF9#8, lo w, hi w]
  | .sbcIndX b => [0xE1#8, b]
  | .sbcIndY b => [0xF1#8, b]
  | .andImm v => [0x29#8, v]
  | .andZp b => [0x25#8, b]
  | .andZpX b => [0x35#8, b]
  | .andAbs w => [0x2D#8, lo w, hi w]
  | .andAbsX w => [0x3D#8, lo w, hi w]
  | .andAbsY w => [0x39#8, lo w, hi w]
  | .andIndX b => [0x21#8, b]
  | .andIndY b => [0x31#8, b]
  | .oraImm v => [0x09#8, v]
  | .oraZp b => [0x05#8, b]
  | .oraZpX b => [0x15#8, b]
  | .oraAbs w => [0x0D#8, lo w, hi w]
  | .oraAbsX w => [0x1D#8, lo w, hi w]
  | .oraAbsY w => [0x19#8, lo w, hi w]
  | .oraIndX b => [0x01#8, b]
  | .oraIndY b => [0x11#8, b]
  | .eorImm v => [0x49#8, v]
  | .eorZp b => [0x45#8, b]
  | .eorZpX b => [0x55#8, b]
  | .eorAbs w => [0x4D#8, lo w, hi w]
  | .eorAbsX w => [0x5D#8, lo w, hi w]
  | .eorAbsY w => [0x59#8, lo w, hi w]
  | .eorIndX b => [0x41#8, b]
  | .eorIndY b => [0x51#8, b]
  | .bitZp b => [0x24#8, b]
  | .bitAbs w => [0x2C#8, lo w, hi w]
  | .aslAcc => [0x0A#8]
  | .aslZp b => [0x06#8, b]
  | .aslZpX b => [0x16#8, b]
  | .aslAbs w => [0x0E#8, lo w, hi w]
  | .aslAbsX w => [0x1E#8, lo w, hi w]
  | .lsrAcc => [0x4A#8]
  | .lsrZp b => [0x46#8, b]
  | .lsrZpX b => [0x56#8, b]
  | .lsrAbs w => [0x4E#8, lo w, hi w]
  | .lsrAbsX w => [0x5E#8, lo w, hi w]
  | .rolAcc => [0x2A#8]
  | .rolZp b => [0x26#8, b]
  | .rolZpX b => [0x36#8, b]
  | .rolAbs w => [0x2E#8, lo w, hi w]
  | .rolAbsX w => [0x3E#8, lo w, hi w]
  | .rorAcc => [0x6A#8]
  | .rorZp b => [0x66#8, b]
  | .rorZpX b => [0x76#8, b]
  | .rorAbs w => [0x6E#8, lo w, hi w]
  | .rorAbsX w => [0x7E#8, lo w, hi w]
  | .cmpImm v => [0xC9#8, v]
  | .cmpZp b => [0xC5#8, b]
  | .cmpZpX b => [0xD5#8, b]
  | .cmpAbs w => [0xCD#8, lo w, hi w]
  | .cmpAbsX w => [0xDD#8, lo w, hi w]
  | .cmpAbsY w => [0xD9#8, lo w, hi w]
  | .cmpIndX b => [0xC1#8, b]
  | .cmpIndY b => [0xD1#8, b]
  | .cpxImm v => [0xE0#8, v]
  | .cpxZp b => [0xE4#8, b]
  | .cpxAbs w => [0xEC#8, lo w, hi w]
  | .cpyImm v => [0xC0#8, v]
  | .cpyZp b => [0xC4#8, b]
  | .cpyAbs w => [0xCC#8, lo w, hi w]
  | .incZp b => [0xE6#8, b]
  | .incZpX b => [0xF6#8, b]
  | .incAbs w => [0xEE#8, lo w, hi w]
  | .incAbsX w => [0xFE#8, lo w, hi w]
  | .decZp b => [0xC6#8, b]
  | .decZpX b => [0xD6#8, b]
  | .decAbs w => [0xCE#8, lo w, hi w]
  | .decAbsX w => [0xDE#8, lo w, hi w]
  | .inx => [0xE8#8]
  | .iny => [0xC8#8]
  | .dex => [0xCA#8]
  | .dey => [0x88#8]
  | .bcc off => [0x90#8, off]
  | .bcs off => [0xB0#8, off]
  | .beq off => [0xF0#8, off]
  | .bne off => [0xD0#8, off]
  | .bmi off => [0x30#8, off]
  | .bpl off => [0x10#8, off]
  | .bvc off => [0x50#8, off]
  | .bvs off => [0x70#8, off]
  | .jmpAbs w => [0x4C#8, lo w, hi w]
  | .jmpInd w => [0x6C#8, lo w, hi w]
  | .jsr w => [0x20#8, lo w, hi w]
  | .rts => [0x60#8]
  | .pha => [0x48#8]
  | .pla => [0x68#8]
  | .php => [0x08#8]
  | .plp => [0x28#8]
  | .clc => [0x18#8]
  | .sec => [0x38#8]
  | .cli => [0x58#8]
  | .sei => [0x78#8]
  | .cld => [0xD8#8]
  | .sed => [0xF8#8]
  | .clv => [0xB8#8]
  | .nop => [0xEA#8]
  | .brk => [0x00#8]
  | .rti => [0x40#8]

/-- The instruction's length in bytes (R80, R82). -/
def Instr.length (i : Instr) : Nat := 1 + i.mode.operandBytes

end Sys2Proof
end

