-- ==== Sys2Proof/Machine/Fetch.lean ====
section
/-! DEFINITION. Fetching one instruction: the opcode fetch (40_execution.md R100), the operand bytes that its mode has (R81, R103)
and the dispatch table (R103). -/

namespace Sys2Proof.Machine

/-- What the bytes at PC hold. -/
inductive Fetched where
  | instr (i : Instr)
  | illegal (op : Byte)
deriving DecidableEq, Repr

/-- The operand bytes of a mode, in the order of R81. An operand byte is a `FetchByte` (R103, R107 to R116), but the byte of the
immediate mode is read after PC has moved past it (R106, R122 "a data read"), so a halt leaves PC at the next instruction. -/
def fetchOperands (m : Mode) (s : State) : Access (List Byte) :=
  match m with
  | .implied | .accumulator => .done [] s
  | .immediate => (memRead s.pc { s with pc := s.pc + 1#16 }).andThen fun b s => .done [b] s
  | .zeroPage | .zeroPageX | .zeroPageY | .indirectX | .indirectY | .relative =>
    (fetchByte s).andThen fun b s => .done [b] s
  | .absolute | .absoluteX | .absoluteY | .indirect =>
    (fetchByte s).andThen fun l s => (fetchByte s).andThen fun h s => .done [l, h] s

/-- The instruction at PC. An illegal opcode is found right after the opcode fetch (R102). -/
def fetchInstr (s : State) : Access Fetched :=
  (fetchByte s).andThen fun op s =>
    match opcodeMode op with
    | none => .done (.illegal op) s
    | some m =>
      (fetchOperands m s).andThen fun operands s =>
        match decode (op :: operands) with
        | .ok (i, _) => .done (.instr i) s
        | .error _ => .done (.illegal op) s

/-- The stop of an illegal opcode (60_exceptions.md R293): PC is set back to the opcode's address. -/
def illegalStop (op : Byte) (s : State) : State := stopRun (.illegalOpcode op) { s with pc := s.pc - 1#16 }

end Sys2Proof.Machine
end

