-- ==== Sys2Proof/Machine/Step.lean ====
section
/-! DEFINITION. One step of the machine: one operation of the caller while RUN = Halted, one iteration of the run loop
(40_execution.md R101, R102) while RUN = Running. -/

namespace Sys2Proof.Machine

/-- The rest of a step once the boundary has nothing to do: fetch, then the instruction (R102). -/
def fetchStep (s : State) : Host.Outcome State Fault Refusal :=
  match fetchInstr s with
  | .halt t => .next (stopRun .halted t)
  | .done (.illegal op) t => .next (illegalStop op t)
  | .done (.instr i) t => exec i t

/-- One step. The bus log of a running step begins empty (log entry 8). -/
def step (s : State) : Host.Outcome State Fault Refusal :=
  match s.run with
  | .halted => .next (callerStep s)
  | .running =>
    match boundary { s with busLog := [] } with
    | .over t => .next t
    | .fetch t => fetchStep t

/-- Stores the bytes at `a`, `a + 1`, …. -/
def State.withBytes (s : State) (a : Addr) (bytes : List Byte) : State :=
  match bytes with
  | [] => s
  | b :: bs => State.withBytes { s with mem := Memory.write s.mem a.toNat b } (a + 1#16) bs

/-- `s` about to fetch and run exactly the instruction of a table word: its bytes at PC, none of them at a halt address, the RAM
serving the first three bus calls, a run in progress below its budget, and no interrupt at this boundary (log entry 12). -/
def State.withFetchWord (s : State) (nbits w : Nat) : State :=
  { State.withBytes s s.pc (tableBytes nbits w) with
    bus := ((s.bus.take 3).map fun _ => .ram) ++ s.bus.drop 3
    haltAddrs := s.haltAddrs.filter fun a => a != s.pc && a != s.pc + 1#16 && a != s.pc + 2#16
    run := .running
    budget := max s.budget (s.cyc + 1)
    nmiPending := false
    irqLine := false :: s.irqLine.tail
    nmiEdge := false :: s.nmiEdge.tail
    reply := none }

end Sys2Proof.Machine
end

