-- ==== Sys2Proof/Safety.lean ====
section
/-! DEFINITION. What counts as a sound state of the core, in the terms the statements use. -/

namespace Sys2Proof.Machine

/-- The default bus: the RAM of 20_memory.md R69 serves every coming bus call. -/
def RamBus (s : State) : Prop := ∀ b ∈ s.bus, b = .ram

/-- The byte of MEM at `a` after a bus write of `v` there as the `k`-th bus call from here, no other write going there. -/
def storedByte (s : State) (k : Nat) (a : Addr) (v : Byte) : Byte :=
  match serviceAt s k with
  | .ram => v
  | .caller _ => readByte s a

/-- No answer waits while a run is in progress, and Run's answer holds the cycle counter as it stands (10_state.md R42, R290). -/
def ReplyAgrees (s : State) : Prop :=
  (s.run = .running → s.reply = none) ∧ ∀ cyc reason, s.reply = some (.ran cyc reason) → cyc = s.cyc

/-- The invariant that every step keeps: memory is canonical and inside the 16-bit space, and the answer agrees with the state. -/
def State.Inv (s : State) : Prop := Memory.wf s.mem = true ∧ ReplyAgrees s

end Sys2Proof.Machine
end

