-- ==== Sys2Proof/Certificates/Slice0/Obligations.lean ====
section
/-! DEFINITION. The statements for the provers: first the vocabulary they share (namespace Sys2Proof.Claim), then one
`def Obligations.<Name> : Prop` each. In a statement about `exec`, PC is already the address of the next instruction
(R103: the operand bytes are consumed), and the conclusion gives the WHOLE next state, hence the frame as well. What a bus call
answers or stores is `busRead s k a` or `storedByte s k a v`, for the k-th call from `s`: the RAM's business or the caller's bus's (R7,
log entry 1), one entry of `bus` being used up by each call that does not halt; `readByte` is a byte of MEM. A halt on the
opcode or on an operand byte happens before `exec` and is the same for every instruction: AHaltedFetchLeavesPcAtTheByte states it. -/

namespace Sys2Proof.Claim

open Sys2Proof.Machine

/-- Z and N of a result byte (R120), spelled over its value. -/
def zn (v : Byte) (f : Flags) : Flags := { f with z := decide (v = 0#8), n := decide (128 ≤ v.toNat) }

/-- `s` stopped by a halting read, what is left of the bus's services being `bus` and the bus log `log`: RUN and Run's answer, nothing
else (R122, R291). -/
def haltedWith (s : State) (bus : List BusService) (log : List BusCall) : State :=
  { s with run := .halted, reply := some (.ran s.cyc .halted), bus := bus, busLog := log }

/-- An immediate form: opcode and operand byte, 2 cycles, the effect of the byte. -/
def ImmForm (i : Instr) (opcode : Byte) (effect : State → State) : Prop :=
  (encode i).head? = some opcode ∧ ∀ s, exec i s = .next { effect s with cyc := s.cyc + 2 }

/-- A form with no operand bytes and no bus call of its own: opcode, cost, effect. -/
def ImpliedForm (i : Instr) (opcode : Byte) (base : Nat) (effect : State → State) : Prop :=
  encode i = [opcode] ∧ ∀ s, exec i s = .next { effect s with cyc := s.cyc + base }

/-- A form that reads one memory operand. Where the resolver gives the address `r.ea` and that address does not halt, the
instruction completes: its effect of the byte that the bus answers there, its base cost and one more cycle if it pays for a crossed page and the page
is crossed, one more bus read, and nothing else. Where the address halts, the run stops and nothing else changes. -/
def ReadForm (i : Instr) (opcode : Byte) (o : Operand) (base : Nat) (paysPage : Bool) (effect : Byte → State → State) :
    Prop :=
  (encode i).head? = some opcode ∧
  ∀ s t r, resolve o s = .done r t →
    (isHalt s r.ea = false → exec i s = .next { effect (busRead t 0 r.ea) s with
      cyc := s.cyc + base + (if paysPage && r.crossed then 1 else 0), bus := t.bus.drop 1,
      busLog := t.busLog ++ [.read r.ea] }) ∧
    (isHalt s r.ea = true → exec i s = .next (haltedWith s t.bus (t.busLog ++ [.read r.ea])))

/-- A halt on a pointer byte stops the run and changes nothing else. -/
def PointerHalts (i : Instr) (o : Operand) : Prop :=
  ∀ s t, resolve o s = .halt t → exec i s = .next (haltedWith s t.bus t.busLog)

/-- The eight forms shared by LDA, ADC, SBC, AND, ORA, EOR and CMP (R85), each as (opcode, constructor). -/
def EightForms (imm zp zpX indX indY : Byte × (Byte → Instr)) (abs absX absY : Byte × (Addr → Instr))
    (effect : Byte → State → State) : Prop :=
  (∀ v, ImmForm (imm.2 v) imm.1 (effect v)) ∧
  (∀ b, ReadForm (zp.2 b) zp.1 (.zp b) 3 false effect) ∧
  (∀ b, ReadForm (zpX.2 b) zpX.1 (.zpX b) 4 false effect) ∧
  (∀ w, ReadForm (abs.2 w) abs.1 (.abs w) 4 false effect) ∧
  (∀ w, ReadForm (absX.2 w) absX.1 (.absX w) 4 true effect) ∧
  (∀ w, ReadForm (absY.2 w) absY.1 (.absY w) 4 true effect) ∧
  (∀ b, ReadForm (indX.2 b) indX.1 (.indX b) 6 false effect ∧ PointerHalts (indX.2 b) (.indX b)) ∧
  (∀ b, ReadForm (indY.2 b) indY.1 (.indY b) 5 true effect ∧ PointerHalts (indY.2 b) (.indY b))

/-- A store: exactly one write of `value s` at the resolved address and no read of it; every other byte of memory reads as
before, and nothing but the bus, its log and the cycle counter changes besides. No crossed page costs a cycle. -/
def StoreForm (i : Instr) (opcode : Byte) (o : Operand) (base : Nat) (value : State → Byte) : Prop :=
  (encode i).head? = some opcode ∧
  ∀ s t r, resolve o s = .done r t → ∃ u, exec i s = .next u ∧
    u = { s with
          mem := u.mem, cyc := s.cyc + base, bus := t.bus.drop 1, busLog := t.busLog ++ [.write r.ea (value s)] } ∧
    readByte u r.ea = storedByte t 0 r.ea (value s) ∧ ∀ a, a ≠ r.ea → readByte u a = readByte s a

/-- A read-modify-write of memory: one read and one write of the new value at the same address, the flags `f` gives, and nothing
else; a halt on the read means no write and no flag change. -/
def ModifyForm (i : Instr) (opcode : Byte) (o : Operand) (base : Nat) (f : Byte → Flags → Byte × Flags) : Prop :=
  (encode i).head? = some opcode ∧
  ∀ s t r, resolve o s = .done r t →
    (isHalt s r.ea = false → ∃ u, exec i s = .next u ∧
      u = { s with
            mem := u.mem, flags := (f (busRead t 0 r.ea) s.flags).2, cyc := s.cyc + base, bus := t.bus.drop 2,
            busLog := t.busLog ++ [.read r.ea, .write r.ea (f (busRead t 0 r.ea) s.flags).1] } ∧
      readByte u r.ea = storedByte t 1 r.ea (f (busRead t 0 r.ea) s.flags).1 ∧
      ∀ a, a ≠ r.ea → readByte u a = readByte s a) ∧
    (isHalt s r.ea = true → exec i s = .next (haltedWith s t.bus (t.busLog ++ [.read r.ea])))

/-- The accumulator form of a shift or rotate: A and the flags `f` gives, 2 cycles. -/
def AccForm (i : Instr) (opcode : Byte) (f : Byte → Flags → Byte × Flags) : Prop :=
  ImpliedForm i opcode 2 fun s => { s with a := (f s.a s.flags).1, flags := (f s.a s.flags).2 }

/-- A conditional branch (R220): 2 cycles and nothing else if not taken; if taken, PC is the target modulo 65536 and the cost is 3 on
the same page as the next instruction, else 4. -/
def BranchForm (i : Byte → Instr) (opcode : Byte) (cond : State → Bool) : Prop :=
  ∀ off s, encode (i off) = [opcode, off] ∧
    (cond s = false → exec (i off) s = .next { s with cyc := s.cyc + 2 }) ∧
    (cond s = true → ∃ target : Addr, (target.toNat : Int) = ((s.pc.toNat : Int) + off.toInt) % 65536 ∧
      exec (i off) s = .next { s with
        pc := target, cyc := s.cyc + (if target.toNat / 256 = s.pc.toNat / 256 then 3 else 4) })

/-- MEM of `u` holds the three bytes that an entry saves under `s.sp` (as far as the RAM serves the writes), and every other byte as `s` has it (R284). -/
def FrameSaved (s u : State) (ret : Addr) (status : Byte) : Prop :=
  readByte u (stackAddr s.sp) = storedByte s 0 (stackAddr s.sp) (hi ret) ∧
  readByte u (stackAddr (s.sp - 1#8)) = storedByte s 1 (stackAddr (s.sp - 1#8)) (lo ret) ∧
  readByte u (stackAddr (s.sp - 2#8)) = storedByte s 2 (stackAddr (s.sp - 2#8)) status ∧
  ∀ a, a ≠ stackAddr s.sp → a ≠ stackAddr (s.sp - 1#8) → a ≠ stackAddr (s.sp - 2#8) → readByte u a = readByte s a

/-- The bus writes of an entry, in order. -/
def frameWrites (s : State) (ret : Addr) (status : Byte) : List BusCall :=
  [.write (stackAddr s.sp) (hi ret), .write (stackAddr (s.sp - 1#8)) (lo ret), .write (stackAddr (s.sp - 2#8)) status]

/-- `u` is `s` after the whole entry sequence (R284) from return address `ret`: the frame, SP - 3, `flags` with I = 1, PC from the
vector, 7 cycles, and nothing else. -/
def EntryDone (s u : State) (vector ret : Addr) (b4 : Bool) (flags : Flags) : Prop :=
  u = { s with
        pc := a16 (busRead s 3 vector) (busRead s 4 (vector + 1#16)), sp := s.sp - 3#8, flags := { flags with i := true },
        cyc := s.cyc + 7, mem := u.mem, bus := s.bus.drop 5,
        busLog := s.busLog ++ frameWrites s ret (pack s.flags b4 true) ++ [.read vector, .read (vector + 1#16)] } ∧
  FrameSaved s u ret (pack s.flags b4 true)

/-- `u` is `s` after an entry whose vector read halted: the pushes, SP - 3 and I = 1 are done, PC is `ret`, and the run has stopped
with no cycle added (R284, R122). -/
def EntryHalted (s u : State) (vector ret : Addr) (b4 : Bool) (flags : Flags) : Prop :=
  u = { s with
        pc := ret, sp := s.sp - 3#8, flags := { flags with i := true }, run := .halted,
        reply := some (.ran s.cyc .halted), mem := u.mem, bus := s.bus.drop (if isHalt s vector then 3 else 4),
        busLog := s.busLog ++ frameWrites s ret (pack s.flags b4 true) ++
          (if isHalt s vector then [.read vector] else [.read vector, .read (vector + 1#16)]) } ∧
  FrameSaved s u ret (pack s.flags b4 true)

/-- A resolver that reads two pointer bytes, at `p` and then `q`: with neither halting it answers what `result` says of the 16-bit
value read (low byte at `p`); a halt ends it at the first halting byte. -/
def PointerRead (o : Operand) (s : State) (p q : Addr) (result : Nat → Resolved → Prop) : Prop :=
  (isHalt s p = false → isHalt s q = false → ∃ r,
    resolve o s = .done r { s with bus := s.bus.drop 2, busLog := s.busLog ++ [.read p, .read q] } ∧
    result ((busRead s 1 q).toNat * 256 + (busRead s 0 p).toNat) r) ∧
  (isHalt s p = true → resolve o s = .halt { s with busLog := s.busLog ++ [.read p] }) ∧
  (isHalt s p = false → isHalt s q = true → resolve o s = .halt
    { s with bus := s.bus.drop 1, busLog := s.busLog ++ [.read p, .read q] })

/-- A running core below its budget, with no NMI pending or arriving, and no IRQ that is asserted and unmasked: the boundary
leaves it to fetch the next instruction (R102, R283). -/
def Quiet (s : State) : Prop :=
  s.run = .running ∧ s.cyc < s.budget ∧ s.nmiPending = false ∧ s.nmiEdge.headD false = false ∧
  (s.irqLine.headD false = false ∨ s.flags.i = true)

/-- `s` past the sampling of this boundary's inputs, with the bus log `log`. -/
def sampled (s : State) (log : List BusCall) : State :=
  { s with irqLine := s.irqLine.tail, nmiEdge := s.nmiEdge.tail, busLog := log }

/-- The "flags written" column of R85. -/
def flagsWritten (i : Instr) : List Flag :=
  match i with
  | .ldaImm _ | .ldaZp _ | .ldaZpX _ | .ldaAbs _ | .ldaAbsX _ | .ldaAbsY _ | .ldaIndX _ | .ldaIndY _
  | .ldxImm _ | .ldxZp _ | .ldxZpY _ | .ldxAbs _ | .ldxAbsY _ | .ldyImm _ | .ldyZp _ | .ldyZpX _ | .ldyAbs _
  | .ldyAbsX _ | .tax | .tay | .txa | .tya | .tsx | .andImm _ | .andZp _ | .andZpX _ | .andAbs _ | .andAbsX _
  | .andAbsY _ | .andIndX _ | .andIndY _ | .oraImm _ | .oraZp _ | .oraZpX _ | .oraAbs _ | .oraAbsX _
  | .oraAbsY _ | .oraIndX _ | .oraIndY _ | .eorImm _ | .eorZp _ | .eorZpX _ | .eorAbs _ | .eorAbsX _
  | .eorAbsY _ | .eorIndX _ | .eorIndY _ | .incZp _ | .incZpX _ | .incAbs _ | .incAbsX _ | .decZp _ | .decZpX _
  | .decAbs _ | .decAbsX _ | .inx | .iny | .dex | .dey | .pla => [.n, .z]
  | .staZp _ | .staZpX _ | .staAbs _ | .staAbsX _ | .staAbsY _ | .staIndX _ | .staIndY _ | .stxZp _ | .stxZpY _
  | .stxAbs _ | .styZp _ | .styZpX _ | .styAbs _ | .txs | .bcc _ | .bcs _ | .beq _ | .bne _ | .bmi _ | .bpl _
  | .bvc _ | .bvs _ | .jmpAbs _ | .jmpInd _ | .jsr _ | .rts | .pha | .php | .nop => []
  | .adcImm _ | .adcZp _ | .adcZpX _ | .adcAbs _ | .adcAbsX _ | .adcAbsY _ | .adcIndX _ | .adcIndY _
  | .sbcImm _ | .sbcZp _ | .sbcZpX _ | .sbcAbs _ | .sbcAbsX _ | .sbcAbsY _ | .sbcIndX _ | .sbcIndY _ => [.n, .v, .z, .c]
  | .bitZp _ | .bitAbs _ => [.n, .v, .z]
  | .aslAcc | .aslZp _ | .aslZpX _ | .aslAbs _ | .aslAbsX _ | .lsrAcc | .lsrZp _ | .lsrZpX _ | .lsrAbs _
  | .lsrAbsX _ | .rolAcc | .rolZp _ | .rolZpX _ | .rolAbs _ | .rolAbsX _ | .rorAcc | .rorZp _ | .rorZpX _
  | .rorAbs _ | .rorAbsX _ | .cmpImm _ | .cmpZp _ | .cmpZpX _ | .cmpAbs _ | .cmpAbsX _ | .cmpAbsY _
  | .cmpIndX _ | .cmpIndY _ | .cpxImm _ | .cpxZp _ | .cpxAbs _ | .cpyImm _ | .cpyZp _ | .cpyAbs _ => [.n, .z, .c]
  | .plp | .rti => [.n, .v, .b, .d, .i, .z, .c]
  | .clc | .sec => [.c]
  | .cli | .sei => [.i]
  | .cld | .sed => [.d]
  | .clv => [.v]
  | .brk => [.b, .i]

/-- The 8-bit registers that R44 says an instruction may write. -/
def registersWritten (i : Instr) : List Reg :=
  match i with
  | .ldaImm _ | .ldaZp _ | .ldaZpX _ | .ldaAbs _ | .ldaAbsX _ | .ldaAbsY _ | .ldaIndX _ | .ldaIndY _ | .txa
  | .tya | .adcImm _ | .adcZp _ | .adcZpX _ | .adcAbs _ | .adcAbsX _ | .adcAbsY _ | .adcIndX _ | .adcIndY _
  | .sbcImm _ | .sbcZp _ | .sbcZpX _ | .sbcAbs _ | .sbcAbsX _ | .sbcAbsY _ | .sbcIndX _ | .sbcIndY _
  | .andImm _ | .andZp _ | .andZpX _ | .andAbs _ | .andAbsX _ | .andAbsY _ | .andIndX _ | .andIndY _
  | .oraImm _ | .oraZp _ | .oraZpX _ | .oraAbs _ | .oraAbsX _ | .oraAbsY _ | .oraIndX _ | .oraIndY _
  | .eorImm _ | .eorZp _ | .eorZpX _ | .eorAbs _ | .eorAbsX _ | .eorAbsY _ | .eorIndX _ | .eorIndY _ | .aslAcc
  | .lsrAcc | .rolAcc | .rorAcc => [.a]
  | .ldxImm _ | .ldxZp _ | .ldxZpY _ | .ldxAbs _ | .ldxAbsY _ | .tax | .tsx | .inx | .dex => [.x]
  | .ldyImm _ | .ldyZp _ | .ldyZpX _ | .ldyAbs _ | .ldyAbsX _ | .tay | .iny | .dey => [.y]
  | .staZp _ | .staZpX _ | .staAbs _ | .staAbsX _ | .staAbsY _ | .staIndX _ | .staIndY _ | .stxZp _ | .stxZpY _
  | .stxAbs _ | .styZp _ | .styZpX _ | .styAbs _ | .bitZp _ | .bitAbs _ | .aslZp _ | .aslZpX _ | .aslAbs _
  | .aslAbsX _ | .lsrZp _ | .lsrZpX _ | .lsrAbs _ | .lsrAbsX _ | .rolZp _ | .rolZpX _ | .rolAbs _ | .rolAbsX _
  | .rorZp _ | .rorZpX _ | .rorAbs _ | .rorAbsX _ | .cmpImm _ | .cmpZp _ | .cmpZpX _ | .cmpAbs _ | .cmpAbsX _
  | .cmpAbsY _ | .cmpIndX _ | .cmpIndY _ | .cpxImm _ | .cpxZp _ | .cpxAbs _ | .cpyImm _ | .cpyZp _ | .cpyAbs _
  | .incZp _ | .incZpX _ | .incAbs _ | .incAbsX _ | .decZp _ | .decZpX _ | .decAbs _ | .decAbsX _ | .bcc _
  | .bcs _ | .beq _ | .bne _ | .bmi _ | .bpl _ | .bvc _ | .bvs _ | .jmpAbs _ | .jmpInd _ | .clc | .sec | .cli
  | .sei | .cld | .sed | .clv | .nop => []
  | .txs | .jsr _ | .rts | .pha | .php | .plp | .brk | .rti => [.sp]
  | .pla => [.a, .sp]

/-- The memory that a list of bus calls leaves: its writes, in order, where the RAM serves them (R69). -/
def replay (calls : List BusCall) (bus : List BusService) (m : Memory) : Memory :=
  match calls with
  | [] => m
  | .read _ :: cs => replay cs (bus.drop 1) m
  | .write a v :: cs =>
    replay cs (bus.drop 1) (match bus.headD .ram with
      | .ram => Memory.write m a.toNat v
      | .caller _ => m)

/-- The bus calls of a list that the bus serves: all but the reads of halt addresses (R53). -/
def servedCalls (s : State) (calls : List BusCall) : List BusCall :=
  calls.filter fun c =>
    match c with
    | .read a => !isHalt s a
    | .write _ _ => true

/-- The value of a byte of two decimal digits. -/
def bcdValue (v : Byte) : Nat := v.toNat / 16 * 10 + v.toNat % 16

/-- Both digits of the byte are 0 to 9. -/
def IsBcd (v : Byte) : Prop := v.toNat / 16 ≤ 9 ∧ v.toNat % 16 ≤ 9

/-- A nibble of 0 to 15 in the high half of a byte, read as a signed number (R162's `sint(a & 0xF0)`). -/
def highSigned (v : Byte) : Int := if v.toNat / 16 < 8 then (v.toNat / 16 * 16 : Nat) else (v.toNat / 16 * 16 : Nat) - 256

end Sys2Proof.Claim

open Sys2Proof Sys2Proof.Machine Sys2Proof.Claim

/-- One word of every family, written out from its row of the opcode table with its operand bytes low byte first, decodes
to the row's instruction with that operand, leaving the bytes after it. [30_encoding.md section 2 (the opcode table);
30_encoding.md section 1 (operand assembly)] -/
def Obligations.TableWordsDecodeToTheirInstructions : Prop :=
  ∀ rest : List Byte,
    decode ([0xA9#8, 0x05#8] ++ rest) = .ok (.ldaImm 0x05#8, rest) ∧
    decode ([0x9D#8, 0xFF#8, 0x12#8] ++ rest) = .ok (.staAbsX 0x12FF#16, rest) ∧
    decode ([0xBA#8] ++ rest) = .ok (.tsx, rest) ∧
    decode ([0x69#8, 0x03#8] ++ rest) = .ok (.adcImm 0x03#8, rest) ∧
    decode ([0x41#8, 0xFE#8] ++ rest) = .ok (.eorIndX 0xFE#8, rest) ∧
    decode ([0x5E#8, 0x00#8, 0x10#8] ++ rest) = .ok (.lsrAbsX 0x1000#16, rest) ∧
    decode ([0xEC#8, 0x34#8, 0x12#8] ++ rest) = .ok (.cpxAbs 0x1234#16, rest) ∧
    decode ([0xD0#8, 0xFD#8] ++ rest) = .ok (.bne 0xFD#8, rest) ∧
    decode ([0x6C#8, 0xFF#8, 0x02#8] ++ rest) = .ok (.jmpInd 0x02FF#16, rest) ∧
    decode ([0x96#8, 0xFF#8] ++ rest) = .ok (.stxZpY 0xFF#8, rest) ∧
    decode ([0x28#8] ++ rest) = .ok (.plp, rest) ∧
    decode ([0x00#8] ++ rest) = .ok (.brk, rest)

/-- For every instruction with every operand value, and whatever bytes follow, decode of its encoding answers exactly that
instruction and the bytes that follow. [30_encoding.md section 1; 30_encoding.md section 2] -/
def Obligations.DecodeOfEncodeIsTheInstruction : Prop :=
  ∀ (i : Instr) (rest : List Byte), decode (encode i ++ rest) = .ok (i, rest)

/-- If bytes decode to an instruction with some bytes left over, the bytes are that instruction's encoding followed by
what is left over, and the encoding has the length that the mode gives. [30_encoding.md section 1; 30_encoding.md
section 2] -/
def Obligations.EncodeOfDecodeIsTheBytes : Prop :=
  ∀ (bytes rest : List Byte) (i : Instr), decode bytes = .ok (i, rest) →
    encode i ++ rest = bytes ∧ (encode i).length = 1 + i.mode.operandBytes

/-- A byte string whose first byte is one of the 105 listed opcodes is rejected as that illegal opcode, and only such
strings are; and a byte string is well formed (a legal opcode with exactly the operand bytes of its length column)
exactly if it decodes with nothing left over. [30_encoding.md section 4 (the list of illegal opcodes); 30_encoding.md
section 2 (length column)] -/
def Obligations.ExactlyTheListedOpcodesAreIllegal : Prop :=
  (∀ (op : Byte) (rest : List Byte), decode (op :: rest) = .error (.illegalOpcode op) ↔ op ∈ illegalOpcodes) ∧
  (∀ bytes : List Byte, bytesWellFormed bytes = true ↔ ∃ i, decode bytes = .ok (i, []))

/-- MemRead makes one bus read; at a halt address it raises Halt and returns no byte and changes nothing but the bus log,
elsewhere it returns BUS_READ of the address. MemWrite makes one bus write; every byte of MEM but the written one
reads as before, and nothing but MEM, the bus and its log changed. With the default bus the read answers MEM and the
write stores there; a call that the caller's bus serves itself answers its byte and stores nothing in MEM. That last
clause and the use of one entry of the bus by each call are the model's own form of the bus (log entry 1, a design
choice), and the bus log is its own too (log entry 8): R7, R11, R52, R53 and R69 say the rest. [R7; R11; R52; R53;
R69] -/
def Obligations.BusReadsAndWrites : Prop :=
  ∀ (s : State) (a : Addr) (v : Byte),
    (isHalt s a = true → memRead a s = .halt { s with busLog := s.busLog ++ [.read a] }) ∧
    (isHalt s a = false → memRead a s = .done (busRead s 0 a)
      { s with bus := s.bus.drop 1, busLog := s.busLog ++ [.read a] }) ∧
    memWrite a v s = { s with mem := (memWrite a v s).mem, bus := s.bus.drop 1, busLog := s.busLog ++ [.write a v] } ∧
    (∀ b, readByte (memWrite a v s) b = if b = a then storedByte s 0 a v else readByte s b) ∧
    (RamBus s → busRead s 0 a = readByte s a ∧ storedByte s 0 a v = v ∧ RamBus (memWrite a v s)) ∧
    ∀ w bus, s.bus = .caller w :: bus → busRead s 0 a = w ∧ (memWrite a v s).mem = s.mem

/-- If two memories are in the canonical form and every address reads the same in both, they are equal lists. The
canonical form is the model's own (log entry 2). [20_memory.md section 6 (the default RAM)] -/
def Obligations.CanonicalMemoriesThatReadAlikeAreEqual : Prop :=
  ∀ m m' : Memory, Memory.wf m = true → Memory.wf m' = true → (∀ a, Memory.read m a = Memory.read m' a) → m = m'

/-- Push writes the byte at 0x0100 + SP and then SP falls by one modulo 256. Pull raises SP by one modulo 256 and then
reads at 0x0100 + SP; where that read halts, SP stays raised. Every stack address is 256 plus the 8-bit SP. [R60; R61;
R62] -/
def Obligations.PushAndPullMoveTheStackPointerInPageOne : Prop :=
  ∀ (s : State) (v : Byte),
    (stackAddr s.sp).toNat = 256 + s.sp.toNat ∧
    push v s = { s with
      sp := (push v s).sp, mem := (push v s).mem, bus := s.bus.drop 1,
      busLog := s.busLog ++ [.write (stackAddr s.sp) v] } ∧
    (push v s).sp.toNat = (s.sp.toNat + 255) % 256 ∧
    (∀ a, readByte (push v s) a = if a = stackAddr s.sp then storedByte s 0 a v else readByte s a) ∧
    ∀ sp' : Byte, sp'.toNat = (s.sp.toNat + 1) % 256 →
      (isHalt s (stackAddr sp') = false → pull s = .done (busRead s 0 (stackAddr sp'))
        { s with sp := sp', bus := s.bus.drop 1, busLog := s.busLog ++ [.read (stackAddr sp')] }) ∧
      (isHalt s (stackAddr sp') = true → pull s = .halt { s with sp := sp', busLog := s.busLog ++ [.read (stackAddr sp')] })

/-- For every byte v and all prior flags, setZN(v) sets Z exactly if v is 0 and N exactly if bit 7 of v is 1 (v is at
least 128), and leaves C, I, D, B and V. [R120] -/
def Obligations.SetZNSetsZeroAndNegativeOnly : Prop :=
  ∀ (v : Byte) (f : Flags),
    ((setZN v f).z = true ↔ v = 0#8) ∧ ((setZN v f).n = true ↔ 128 ≤ v.toNat) ∧
    setZN v f = { f with z := (setZN v f).z, n := (setZN v f).n }

/-- Bit by bit, pack(b4, b5) is N V b5 b4 D I Z C; unpacking the packed byte gives the flags back with B = b4; unpacking
ignores bit 5; and Inspect shows pack(B, 1). [10_state.md section 3 (the status byte)] -/
def Obligations.StatusBytePacksAndUnpacks : Prop :=
  (∀ (f : Flags) (b4 b5 : Bool),
    (List.range 8).map (pack f b4 b5).getLsbD = [f.c, f.z, f.i, f.d, b4, b5, f.v, f.n] ∧
    unpack (pack f b4 b5) = { f with b := b4 }) ∧
  (∀ p : Byte, unpack (p ^^^ 0x20#8) = unpack p ∧ pack (unpack p) (p.getLsbD 4) (p.getLsbD 5) = p) ∧
  (∀ s : State, (inspect s).p = pack s.flags s.flags.b true)

/-- The effective address is the operand byte, or its sum with X or Y modulo 256, in page 0; crossed is false; no bus call
is made beyond the operand fetch. [R107; R108; R109] -/
def Obligations.ZeroPageModesStayInPageZero : Prop :=
  ∀ (b : Byte) (s : State),
    (∃ r, resolve (.zp b) s = .done r s ∧ r.ea.toNat = b.toNat ∧ r.crossed = false) ∧
    (∃ r, resolve (.zpX b) s = .done r s ∧ r.ea.toNat = (b.toNat + s.x.toNat) % 256 ∧ r.crossed = false) ∧
    (∃ r, resolve (.zpY b) s = .done r s ∧ r.ea.toNat = (b.toNat + s.y.toNat) % 256 ∧ r.crossed = false)

/-- The effective address of absolute is the operand; of absolute-X and absolute-Y it is the sum with the index modulo
65536, and crossed says whether its high byte differs from the base's. [R110; R111; R112] -/
def Obligations.AbsoluteModesWrapAtSixteenBits : Prop :=
  ∀ (w : Addr) (s : State),
    resolve (.abs w) s = .done ⟨w, false⟩ s ∧
    (∃ r, resolve (.absX w) s = .done r s ∧ r.ea.toNat = (w.toNat + s.x.toNat) % 65536 ∧
      r.crossed = decide (r.ea.toNat / 256 ≠ w.toNat / 256)) ∧
    (∃ r, resolve (.absY w) s = .done r s ∧ r.ea.toNat = (w.toNat + s.y.toNat) % 65536 ∧
      r.crossed = decide (r.ea.toNat / 256 ≠ w.toNat / 256))

/-- JMP indirect takes the high byte from the start of the same page when the pointer straddles a page; (zp,X) and (zp),Y
take both pointer bytes from page 0; (zp),Y then adds Y in 16 bits and reports the crossing. The low byte is read
first, and a halting pointer byte ends the resolver there. [R113; R114; R115] -/
def Obligations.IndirectModesReadTheirPointersWithTheirWraps : Prop :=
  ∀ (s : State) (w p q : Addr) (b : Byte),
    (q.toNat = w.toNat / 256 * 256 + (w.toNat + 1) % 256 →
      PointerRead (.ind w) s w q fun target r => r.ea.toNat = target ∧ r.crossed = false) ∧
    (p.toNat = (b.toNat + s.x.toNat) % 256 → q.toNat = (b.toNat + s.x.toNat + 1) % 256 →
      PointerRead (.indX b) s p q fun target r => r.ea.toNat = target ∧ r.crossed = false) ∧
    (p.toNat = b.toNat → q.toNat = (b.toNat + 1) % 256 →
      PointerRead (.indY b) s p q fun base r => r.ea.toNat = (base + s.y.toNat) % 65536 ∧
        r.crossed = decide (r.ea.toNat / 256 ≠ base / 256))

/-- The target is PC after the instruction plus the offset byte read as a two's-complement number, modulo 65536; crossed
says whether its page differs from that PC's page. [R116] -/
def Obligations.RelativeTargetIsNextInstructionPlusSignedOffset : Prop :=
  ∀ (off : Byte) (s : State), ∃ r, resolve (.rel off) s = .done r s ∧
    (r.ea.toNat : Int) = ((s.pc.toNat : Int) + off.toInt) % 65536 ∧ r.crossed = decide (r.ea.toNat / 256 ≠ s.pc.toNat / 256)

/-- For all 131,072 inputs, the result is the sum modulo 256, C is set exactly if the sum exceeds 255, V exactly if the
signed sum with the carry lies outside -128..127, Z exactly if the result is 0 and N exactly if its bit 7 is 1. [R161] -/
def Obligations.BinaryAddMatchesIntegerAddition : Prop :=
  ∀ (a m : Byte) (c : Bool),
    (addBin a m c).r.toNat = (a.toNat + m.toNat + c.toNat) % 256 ∧
    ((addBin a m c).c = true ↔ 255 < a.toNat + m.toNat + c.toNat) ∧
    ((addBin a m c).v = true ↔ a.toInt + m.toInt + (c.toNat : Int) < -128 ∨ 127 < a.toInt + m.toInt + (c.toNat : Int)) ∧
    ((addBin a m c).z = true ↔ (addBin a m c).r = 0#8) ∧
    ((addBin a m c).n = true ↔ 128 ≤ (addBin a m c).r.toNat)

/-- For all 131,072 inputs, the result is a - m - (1 - c) modulo 256, C is set exactly if that difference is not negative,
V exactly if the signed difference lies outside -128..127, Z and N come from the result, and all five outputs equal
those of the binary add of the complement of m (the spec marks that equality as derived). [42_arithmetic.md section 2
(R164, SUB_BIN)] -/
def Obligations.BinarySubtractIsAdditionOfTheComplement : Prop :=
  ∀ (a m : Byte) (c : Bool),
    ((subBin a m c).r.toNat : Int) = ((a.toNat : Int) - m.toNat - (1 - c.toNat)) % 256 ∧
    ((subBin a m c).c = true ↔ 0 ≤ (a.toNat : Int) - m.toNat - (1 - c.toNat)) ∧
    ((subBin a m c).v = true ↔
      a.toInt - m.toInt - (1 - (c.toNat : Int)) < -128 ∨ 127 < a.toInt - m.toInt - (1 - (c.toNat : Int))) ∧
    ((subBin a m c).z = true ↔ (subBin a m c).r = 0#8) ∧
    ((subBin a m c).n = true ↔ 128 ≤ (subBin a m c).r.toNat) ∧
    subBin a m c = addBin a (~~~m) c

/-- For every pair of bytes and carry, with the nibbles as numbers: the low digit sum is adjusted, the result, carry, N, V
and Z are as the algorithm says, Z from the binary sum; and for valid BCD inputs the result is the decimal sum modulo
100 in BCD and C is the decimal carry. [R162] -/
def Obligations.DecimalAddFollowsTheNmosAlgorithm : Prop :=
  ∀ (a m : Byte) (c : Bool) (low al t : Nat) (tn : Int),
    low = a.toNat % 16 + m.toNat % 16 + c.toNat →
    al = (if 10 ≤ low then (low + 6) % 16 + 16 else low) →
    t = a.toNat / 16 * 16 + m.toNat / 16 * 16 + al →
    tn = highSigned a + highSigned m + al →
    (addDec a m c).r.toNat = (if 160 ≤ t then t + 96 else t) % 256 ∧
    ((addDec a m c).c = true ↔ 256 ≤ (if 160 ≤ t then t + 96 else t)) ∧
    ((addDec a m c).n = true ↔ 128 ≤ tn % 256) ∧
    ((addDec a m c).v = true ↔ tn < -128 ∨ 127 < tn) ∧
    ((addDec a m c).z = true ↔ (a.toNat + m.toNat + c.toNat) % 256 = 0) ∧
    (IsBcd a → IsBcd m → IsBcd (addDec a m c).r ∧
      bcdValue (addDec a m c).r = (bcdValue a + bcdValue m + c.toNat) % 100 ∧
      ((addDec a m c).c = true ↔ 100 ≤ bcdValue a + bcdValue m + c.toNat))

/-- For every pair of bytes and carry, with the nibbles as numbers, the accumulator is what the algorithm says; for valid
BCD inputs it is the BCD difference modulo 100, and the borrow is the binary C, which agrees with the decimal borrow.
[R165] -/
def Obligations.DecimalSubtractFollowsTheNmosAlgorithm : Prop :=
  ∀ (a m : Byte) (c : Bool) (low al t : Int),
    low = (a.toNat % 16 : Nat) - ((m.toNat % 16 : Nat) : Int) + c.toNat - 1 →
    al = (if low < 0 then (low - 6) % 16 - 16 else low) →
    t = (a.toNat / 16 * 16 : Nat) - ((m.toNat / 16 * 16 : Nat) : Int) + al →
    ((subDec a m c).toNat : Int) = (if t < 0 then t - 96 else t) % 256 ∧
    (IsBcd a → IsBcd m → IsBcd (subDec a m c) ∧
      (bcdValue (subDec a m c) : Int) = ((bcdValue a : Int) - bcdValue m - (1 - c.toNat)) % 100 ∧
      ((subBin a m c).c = true ↔ 0 ≤ (bcdValue a : Int) - bcdValue m - (1 - c.toNat)))

/-- For each form: its opcode, A becomes the operand byte, Z and N come from it, the cost is the base count plus one for a
crossed page where the form pays for it; a halt on a pointer or data read stops the run and leaves A and the flags.
The operand byte of the immediate form is read in the fetch (log entry 10). [R140] -/
def Obligations.LdaLoadsTheAccumulator : Prop :=
  EightForms (0xA9#8, .ldaImm) (0xA5#8, .ldaZp) (0xB5#8, .ldaZpX) (0xA1#8, .ldaIndX) (0xB1#8, .ldaIndY)
    (0xAD#8, .ldaAbs) (0xBD#8, .ldaAbsX) (0xB9#8, .ldaAbsY)
    (fun m s => { s with a := m, flags := zn m s.flags })

/-- For each form: its opcode, the register becomes the operand byte, Z and N come from it, the cost is the base count
plus one for a crossed page in the absolute-indexed form; a halt on the data read stops the run and changes nothing
else. [R141; R142] -/
def Obligations.LdxAndLdyLoadTheIndexRegisters : Prop :=
  (∀ v, ImmForm (.ldxImm v) 0xA2#8 ((fun m s => { s with x := m, flags := zn m s.flags }) v)) ∧
  (∀ b, ReadForm (.ldxZp b) 0xA6#8 (.zp b) 3 false (fun m s => { s with x := m, flags := zn m s.flags })) ∧
  (∀ b, ReadForm (.ldxZpY b) 0xB6#8 (.zpY b) 4 false (fun m s => { s with x := m, flags := zn m s.flags })) ∧
  (∀ w, ReadForm (.ldxAbs w) 0xAE#8 (.abs w) 4 false (fun m s => { s with x := m, flags := zn m s.flags })) ∧
  (∀ w, ReadForm (.ldxAbsY w) 0xBE#8 (.absY w) 4 true (fun m s => { s with x := m, flags := zn m s.flags })) ∧
  (∀ v, ImmForm (.ldyImm v) 0xA0#8 ((fun m s => { s with y := m, flags := zn m s.flags }) v)) ∧
  (∀ b, ReadForm (.ldyZp b) 0xA4#8 (.zp b) 3 false (fun m s => { s with y := m, flags := zn m s.flags })) ∧
  (∀ b, ReadForm (.ldyZpX b) 0xB4#8 (.zpX b) 4 false (fun m s => { s with y := m, flags := zn m s.flags })) ∧
  (∀ w, ReadForm (.ldyAbs w) 0xAC#8 (.abs w) 4 false (fun m s => { s with y := m, flags := zn m s.flags })) ∧
  (∀ w, ReadForm (.ldyAbsX w) 0xBC#8 (.absX w) 4 true (fun m s => { s with y := m, flags := zn m s.flags }))

/-- For each form: its opcode, exactly one bus write of the register at the resolved address, every other byte and every
flag and register as before, the base cost with no page-cross cycle; a halt on a pointer byte of STA leaves memory
unchanged. [R143; R144; R145] -/
def Obligations.StoresWriteOneByteAndNoFlag : Prop :=
  (∀ b, StoreForm (.staZp b) 0x85#8 (.zp b) 3 (·.a)) ∧
  (∀ b, StoreForm (.staZpX b) 0x95#8 (.zpX b) 4 (·.a)) ∧
  (∀ w, StoreForm (.staAbs w) 0x8D#8 (.abs w) 4 (·.a)) ∧
  (∀ w, StoreForm (.staAbsX w) 0x9D#8 (.absX w) 5 (·.a)) ∧
  (∀ w, StoreForm (.staAbsY w) 0x99#8 (.absY w) 5 (·.a)) ∧
  (∀ b, StoreForm (.staIndX b) 0x81#8 (.indX b) 6 (·.a)) ∧
  (∀ b, StoreForm (.staIndY b) 0x91#8 (.indY b) 6 (·.a)) ∧
  (∀ b, PointerHalts (.staIndX b) (.indX b)) ∧
  (∀ b, PointerHalts (.staIndY b) (.indY b)) ∧
  (∀ b, StoreForm (.stxZp b) 0x86#8 (.zp b) 3 (·.x)) ∧
  (∀ b, StoreForm (.stxZpY b) 0x96#8 (.zpY b) 4 (·.x)) ∧
  (∀ w, StoreForm (.stxAbs w) 0x8E#8 (.abs w) 4 (·.x)) ∧
  (∀ b, StoreForm (.styZp b) 0x84#8 (.zp b) 3 (·.y)) ∧
  (∀ b, StoreForm (.styZpX b) 0x94#8 (.zpX b) 4 (·.y)) ∧
  (∀ w, StoreForm (.styAbs w) 0x8C#8 (.abs w) 4 (·.y))

/-- Each transfer has its opcode, costs 2, copies its source register to its destination; all but TXS set Z and N from the
value moved; nothing else changes. [R146; R147; R148; R149; R150; R151] -/
def Obligations.TransfersMoveOneRegister : Prop :=
  ImpliedForm .tax 0xAA#8 2 (fun s => { s with x := s.a, flags := zn s.a s.flags }) ∧
  ImpliedForm .tay 0xA8#8 2 (fun s => { s with y := s.a, flags := zn s.a s.flags }) ∧
  ImpliedForm .txa 0x8A#8 2 (fun s => { s with a := s.x, flags := zn s.x s.flags }) ∧
  ImpliedForm .tya 0x98#8 2 (fun s => { s with a := s.y, flags := zn s.y s.flags }) ∧
  ImpliedForm .tsx 0xBA#8 2 (fun s => { s with x := s.sp, flags := zn s.sp s.flags }) ∧
  ImpliedForm .txs 0x9A#8 2 (fun s => { s with sp := s.x })

/-- For each form: its opcode, A and N, V, Z, C become what the binary add gives if D = 0 and what the decimal add gives
if D = 1; I, D and B and everything else are unchanged; a halt on a pointer or data read leaves A and the flags.
[R160] -/
def Obligations.AdcAddsInTheModeOfD : Prop :=
  EightForms (0x69#8, .adcImm) (0x65#8, .adcZp) (0x75#8, .adcZpX) (0x61#8, .adcIndX) (0x71#8, .adcIndY)
    (0x6D#8, .adcAbs) (0x7D#8, .adcAbsX) (0x79#8, .adcAbsY)
    (fun m s => let o := if s.flags.d = true then addDec s.a m s.flags.c else addBin s.a m s.flags.c
      { s with a := o.r, flags := { s.flags with n := o.n, v := o.v, z := o.z, c := o.c } })

/-- For each form: its opcode, A becomes the binary difference if D = 0 and the decimal one if D = 1, N, V, Z and C come
from the binary subtraction in both modes; everything else is unchanged; a halt on a pointer or data read leaves A and
the flags. [R163] -/
def Obligations.SbcSubtractsInTheModeOfD : Prop :=
  EightForms (0xE9#8, .sbcImm) (0xE5#8, .sbcZp) (0xF5#8, .sbcZpX) (0xE1#8, .sbcIndX) (0xF1#8, .sbcIndY)
    (0xED#8, .sbcAbs) (0xFD#8, .sbcAbsX) (0xF9#8, .sbcAbsY)
    (fun m s => let o := subBin s.a m s.flags.c
      { s with a := if s.flags.d = true then subDec s.a m s.flags.c else o.r,
               flags := { s.flags with n := o.n, v := o.v, z := o.z, c := o.c } })

/-- For each form of each: its opcode, A becomes the bitwise AND, OR or exclusive OR with the operand, Z and N come from
the new A, everything else is unchanged; a halt on a pointer or data read leaves A and the flags. [R180; R181; R182] -/
def Obligations.LogicOperationsCombineIntoTheAccumulator : Prop :=
  EightForms (0x29#8, .andImm) (0x25#8, .andZp) (0x35#8, .andZpX) (0x21#8, .andIndX) (0x31#8, .andIndY)
    (0x2D#8, .andAbs) (0x3D#8, .andAbsX) (0x39#8, .andAbsY)
    (fun m s => { s with a := s.a &&& m, flags := zn (s.a &&& m) s.flags }) ∧
  EightForms (0x09#8, .oraImm) (0x05#8, .oraZp) (0x15#8, .oraZpX) (0x01#8, .oraIndX) (0x11#8, .oraIndY)
    (0x0D#8, .oraAbs) (0x1D#8, .oraAbsX) (0x19#8, .oraAbsY)
    (fun m s => { s with a := s.a ||| m, flags := zn (s.a ||| m) s.flags }) ∧
  EightForms (0x49#8, .eorImm) (0x45#8, .eorZp) (0x55#8, .eorZpX) (0x41#8, .eorIndX) (0x51#8, .eorIndY)
    (0x4D#8, .eorAbs) (0x5D#8, .eorAbsX) (0x59#8, .eorAbsY)
    (fun m s => { s with a := s.a ^^^ m, flags := zn (s.a ^^^ m) s.flags })

/-- Both forms: the opcode, Z exactly if A AND M is 0, N and V from bits 7 and 6 of the operand itself, everything else
unchanged; a halt on the data read leaves the flags. [R183] -/
def Obligations.BitTestsTheOperand : Prop :=
  (∀ b, ReadForm (.bitZp b) 0x24#8 (.zp b) 3 false (fun m s => { s with flags := { s.flags with z := decide (s.a &&& m = 0#8), n := decide (128 ≤ m.toNat), v := decide (64 ≤ m.toNat % 128) } })) ∧
  (∀ w, ReadForm (.bitAbs w) 0x2C#8 (.abs w) 4 false (fun m s => { s with flags := { s.flags with z := decide (s.a &&& m = 0#8), n := decide (128 ≤ m.toNat), v := decide (64 ≤ m.toNat % 128) } }))

/-- For each form: its opcode, the new byte is m*2 mod 256, m div 2, m*2 + C mod 256, or m div 2 + C*128; C becomes the
bit shifted out; Z and N come from the result. The memory forms read once and write once, only the new value, and
change no other byte; the accumulator forms make no bus call. A halt on the read means no write and no flag change.
[R190; R191; R192; R193] -/
def Obligations.ShiftsAndRotatesMoveOneBitThroughCarry : Prop :=
  AccForm .aslAcc 0x0A#8 (fun m f => (BitVec.ofNat 8 (m.toNat * 2), { zn (BitVec.ofNat 8 (m.toNat * 2)) f with c := decide (128 ≤ m.toNat) })) ∧
  (∀ b, ModifyForm (.aslZp b) 0x06#8 (.zp b) 5 (fun m f => (BitVec.ofNat 8 (m.toNat * 2), { zn (BitVec.ofNat 8 (m.toNat * 2)) f with c := decide (128 ≤ m.toNat) }))) ∧
  (∀ b, ModifyForm (.aslZpX b) 0x16#8 (.zpX b) 6 (fun m f => (BitVec.ofNat 8 (m.toNat * 2), { zn (BitVec.ofNat 8 (m.toNat * 2)) f with c := decide (128 ≤ m.toNat) }))) ∧
  (∀ w, ModifyForm (.aslAbs w) 0x0E#8 (.abs w) 6 (fun m f => (BitVec.ofNat 8 (m.toNat * 2), { zn (BitVec.ofNat 8 (m.toNat * 2)) f with c := decide (128 ≤ m.toNat) }))) ∧
  (∀ w, ModifyForm (.aslAbsX w) 0x1E#8 (.absX w) 7 (fun m f => (BitVec.ofNat 8 (m.toNat * 2), { zn (BitVec.ofNat 8 (m.toNat * 2)) f with c := decide (128 ≤ m.toNat) }))) ∧
  AccForm .lsrAcc 0x4A#8 (fun m f => (BitVec.ofNat 8 (m.toNat / 2), { zn (BitVec.ofNat 8 (m.toNat / 2)) f with c := decide (m.toNat % 2 = 1) })) ∧
  (∀ b, ModifyForm (.lsrZp b) 0x46#8 (.zp b) 5 (fun m f => (BitVec.ofNat 8 (m.toNat / 2), { zn (BitVec.ofNat 8 (m.toNat / 2)) f with c := decide (m.toNat % 2 = 1) }))) ∧
  (∀ b, ModifyForm (.lsrZpX b) 0x56#8 (.zpX b) 6 (fun m f => (BitVec.ofNat 8 (m.toNat / 2), { zn (BitVec.ofNat 8 (m.toNat / 2)) f with c := decide (m.toNat % 2 = 1) }))) ∧
  (∀ w, ModifyForm (.lsrAbs w) 0x4E#8 (.abs w) 6 (fun m f => (BitVec.ofNat 8 (m.toNat / 2), { zn (BitVec.ofNat 8 (m.toNat / 2)) f with c := decide (m.toNat % 2 = 1) }))) ∧
  (∀ w, ModifyForm (.lsrAbsX w) 0x5E#8 (.absX w) 7 (fun m f => (BitVec.ofNat 8 (m.toNat / 2), { zn (BitVec.ofNat 8 (m.toNat / 2)) f with c := decide (m.toNat % 2 = 1) }))) ∧
  AccForm .rolAcc 0x2A#8 (fun m f => (BitVec.ofNat 8 (m.toNat * 2 + f.c.toNat), { zn (BitVec.ofNat 8 (m.toNat * 2 + f.c.toNat)) f with c := decide (128 ≤ m.toNat) })) ∧
  (∀ b, ModifyForm (.rolZp b) 0x26#8 (.zp b) 5 (fun m f => (BitVec.ofNat 8 (m.toNat * 2 + f.c.toNat), { zn (BitVec.ofNat 8 (m.toNat * 2 + f.c.toNat)) f with c := decide (128 ≤ m.toNat) }))) ∧
  (∀ b, ModifyForm (.rolZpX b) 0x36#8 (.zpX b) 6 (fun m f => (BitVec.ofNat 8 (m.toNat * 2 + f.c.toNat), { zn (BitVec.ofNat 8 (m.toNat * 2 + f.c.toNat)) f with c := decide (128 ≤ m.toNat) }))) ∧
  (∀ w, ModifyForm (.rolAbs w) 0x2E#8 (.abs w) 6 (fun m f => (BitVec.ofNat 8 (m.toNat * 2 + f.c.toNat), { zn (BitVec.ofNat 8 (m.toNat * 2 + f.c.toNat)) f with c := decide (128 ≤ m.toNat) }))) ∧
  (∀ w, ModifyForm (.rolAbsX w) 0x3E#8 (.absX w) 7 (fun m f => (BitVec.ofNat 8 (m.toNat * 2 + f.c.toNat), { zn (BitVec.ofNat 8 (m.toNat * 2 + f.c.toNat)) f with c := decide (128 ≤ m.toNat) }))) ∧
  AccForm .rorAcc 0x6A#8 (fun m f => (BitVec.ofNat 8 (m.toNat / 2 + f.c.toNat * 128), { zn (BitVec.ofNat 8 (m.toNat / 2 + f.c.toNat * 128)) f with c := decide (m.toNat % 2 = 1) })) ∧
  (∀ b, ModifyForm (.rorZp b) 0x66#8 (.zp b) 5 (fun m f => (BitVec.ofNat 8 (m.toNat / 2 + f.c.toNat * 128), { zn (BitVec.ofNat 8 (m.toNat / 2 + f.c.toNat * 128)) f with c := decide (m.toNat % 2 = 1) }))) ∧
  (∀ b, ModifyForm (.rorZpX b) 0x76#8 (.zpX b) 6 (fun m f => (BitVec.ofNat 8 (m.toNat / 2 + f.c.toNat * 128), { zn (BitVec.ofNat 8 (m.toNat / 2 + f.c.toNat * 128)) f with c := decide (m.toNat % 2 = 1) }))) ∧
  (∀ w, ModifyForm (.rorAbs w) 0x6E#8 (.abs w) 6 (fun m f => (BitVec.ofNat 8 (m.toNat / 2 + f.c.toNat * 128), { zn (BitVec.ofNat 8 (m.toNat / 2 + f.c.toNat * 128)) f with c := decide (m.toNat % 2 = 1) }))) ∧
  (∀ w, ModifyForm (.rorAbsX w) 0x7E#8 (.absX w) 7 (fun m f => (BitVec.ofNat 8 (m.toNat / 2 + f.c.toNat * 128), { zn (BitVec.ofNat 8 (m.toNat / 2 + f.c.toNat * 128)) f with c := decide (m.toNat % 2 = 1) })))

/-- For each form: its opcode, C exactly if the register is at least the operand (unsigned), Z exactly if they are equal,
N from bit 7 of the difference modulo 256, whatever the carry was; V, I, D, B, the registers and everything else are
unchanged; a halt leaves the flags. [R200; R201; R202; R203] -/
def Obligations.ComparesSetCarryZeroNegative : Prop :=
  EightForms (0xC9#8, .cmpImm) (0xC5#8, .cmpZp) (0xD5#8, .cmpZpX) (0xC1#8, .cmpIndX) (0xD1#8, .cmpIndY)
    (0xCD#8, .cmpAbs) (0xDD#8, .cmpAbsX) (0xD9#8, .cmpAbsY)
    (fun m s => { s with flags := { s.flags with c := decide (m.toNat ≤ s.a.toNat), z := decide (s.a = m), n := decide (128 ≤ (s.a.toNat + 256 - m.toNat) % 256) } }) ∧
  (∀ v, ImmForm (.cpxImm v) 0xE0#8 ((fun m s => { s with flags := { s.flags with c := decide (m.toNat ≤ s.x.toNat), z := decide (s.x = m), n := decide (128 ≤ (s.x.toNat + 256 - m.toNat) % 256) } }) v)) ∧
  (∀ b, ReadForm (.cpxZp b) 0xE4#8 (.zp b) 3 false (fun m s => { s with flags := { s.flags with c := decide (m.toNat ≤ s.x.toNat), z := decide (s.x = m), n := decide (128 ≤ (s.x.toNat + 256 - m.toNat) % 256) } })) ∧
  (∀ w, ReadForm (.cpxAbs w) 0xEC#8 (.abs w) 4 false (fun m s => { s with flags := { s.flags with c := decide (m.toNat ≤ s.x.toNat), z := decide (s.x = m), n := decide (128 ≤ (s.x.toNat + 256 - m.toNat) % 256) } })) ∧
  (∀ v, ImmForm (.cpyImm v) 0xC0#8 ((fun m s => { s with flags := { s.flags with c := decide (m.toNat ≤ s.y.toNat), z := decide (s.y = m), n := decide (128 ≤ (s.y.toNat + 256 - m.toNat) % 256) } }) v)) ∧
  (∀ b, ReadForm (.cpyZp b) 0xC4#8 (.zp b) 3 false (fun m s => { s with flags := { s.flags with c := decide (m.toNat ≤ s.y.toNat), z := decide (s.y = m), n := decide (128 ≤ (s.y.toNat + 256 - m.toNat) % 256) } })) ∧
  (∀ w, ReadForm (.cpyAbs w) 0xCC#8 (.abs w) 4 false (fun m s => { s with flags := { s.flags with c := decide (m.toNat ≤ s.y.toNat), z := decide (s.y = m), n := decide (128 ≤ (s.y.toNat + 256 - m.toNat) % 256) } }))

/-- For each form: its opcode, one read and one write at the same address of the byte plus or minus one modulo 256, Z and
N from the new byte, C and V and every other byte unchanged; a halt on the read means no write and no flag change.
[R204; R205] -/
def Obligations.IncAndDecModifyMemory : Prop :=
  (∀ b, ModifyForm (.incZp b) 0xE6#8 (.zp b) 5 (fun m f => (BitVec.ofNat 8 (m.toNat + 1), zn (BitVec.ofNat 8 (m.toNat + 1)) f))) ∧
  (∀ b, ModifyForm (.incZpX b) 0xF6#8 (.zpX b) 6 (fun m f => (BitVec.ofNat 8 (m.toNat + 1), zn (BitVec.ofNat 8 (m.toNat + 1)) f))) ∧
  (∀ w, ModifyForm (.incAbs w) 0xEE#8 (.abs w) 6 (fun m f => (BitVec.ofNat 8 (m.toNat + 1), zn (BitVec.ofNat 8 (m.toNat + 1)) f))) ∧
  (∀ w, ModifyForm (.incAbsX w) 0xFE#8 (.absX w) 7 (fun m f => (BitVec.ofNat 8 (m.toNat + 1), zn (BitVec.ofNat 8 (m.toNat + 1)) f))) ∧
  (∀ b, ModifyForm (.decZp b) 0xC6#8 (.zp b) 5 (fun m f => (BitVec.ofNat 8 (m.toNat + 255), zn (BitVec.ofNat 8 (m.toNat + 255)) f))) ∧
  (∀ b, ModifyForm (.decZpX b) 0xD6#8 (.zpX b) 6 (fun m f => (BitVec.ofNat 8 (m.toNat + 255), zn (BitVec.ofNat 8 (m.toNat + 255)) f))) ∧
  (∀ w, ModifyForm (.decAbs w) 0xCE#8 (.abs w) 6 (fun m f => (BitVec.ofNat 8 (m.toNat + 255), zn (BitVec.ofNat 8 (m.toNat + 255)) f))) ∧
  (∀ w, ModifyForm (.decAbsX w) 0xDE#8 (.absX w) 7 (fun m f => (BitVec.ofNat 8 (m.toNat + 255), zn (BitVec.ofNat 8 (m.toNat + 255)) f)))

/-- Each has its opcode, costs 2, adds or subtracts one modulo 256, sets Z and N from the new value, and changes nothing
else. [R206; R207; R208; R209] -/
def Obligations.IndexRegistersStepByOne : Prop :=
  ImpliedForm .inx 0xE8#8 2 (fun s => { s with x := BitVec.ofNat 8 (s.x.toNat + 1), flags := zn (BitVec.ofNat 8 (s.x.toNat + 1)) s.flags }) ∧
  ImpliedForm .iny 0xC8#8 2 (fun s => { s with y := BitVec.ofNat 8 (s.y.toNat + 1), flags := zn (BitVec.ofNat 8 (s.y.toNat + 1)) s.flags }) ∧
  ImpliedForm .dex 0xCA#8 2 (fun s => { s with x := BitVec.ofNat 8 (s.x.toNat + 255), flags := zn (BitVec.ofNat 8 (s.x.toNat + 255)) s.flags }) ∧
  ImpliedForm .dey 0x88#8 2 (fun s => { s with y := BitVec.ofNat 8 (s.y.toNat + 255), flags := zn (BitVec.ofNat 8 (s.y.toNat + 255)) s.flags })

/-- Each branch has its opcode and its condition. Not taken it costs 2 and changes nothing else. Taken, PC becomes PC
after the branch plus the signed offset modulo 65536 at a cost of 3 on the same page and 4 across a page; no flag,
register or byte of memory changes. [R220; R221; R222; R223; R224; R225; R226; R227; R228] -/
def Obligations.BranchesTestOneFlag : Prop :=
  BranchForm .bcc 0x90#8 (fun s => !s.flags.c) ∧
  BranchForm .bcs 0xB0#8 (fun s => s.flags.c) ∧
  BranchForm .beq 0xF0#8 (fun s => s.flags.z) ∧
  BranchForm .bne 0xD0#8 (fun s => !s.flags.z) ∧
  BranchForm .bmi 0x30#8 (fun s => s.flags.n) ∧
  BranchForm .bpl 0x10#8 (fun s => !s.flags.n) ∧
  BranchForm .bvc 0x50#8 (fun s => !s.flags.v) ∧
  BranchForm .bvs 0x70#8 (fun s => s.flags.v)

/-- JMP absolute (4C) loads PC with its operand in 3 cycles; JMP indirect (6C) loads PC with the address its pointer holds
in 5 cycles; no flag changes and no data is read at the target. A halt on a pointer byte leaves PC at the next
instruction, as the table of R122 says of a pointer read; R240's "at the byte being read" is taken of the operand
bytes only (log entry 13). [R240; R113; R122] -/
def Obligations.JmpSetsTheProgramCounter : Prop :=
  ∀ (w : Addr) (s : State),
    encode (.jmpAbs w) = [0x4C#8, lo w, hi w] ∧ encode (.jmpInd w) = [0x6C#8, lo w, hi w] ∧
    exec (.jmpAbs w) s = .next { s with pc := w, cyc := s.cyc + 3 } ∧
    (∀ t r, resolve (.ind w) s = .done r t →
      exec (.jmpInd w) s = .next { s with pc := r.ea, cyc := s.cyc + 5, bus := t.bus, busLog := t.busLog }) ∧
    PointerHalts (.jmpInd w) (.ind w)

/-- JSR (20) pushes PC - 1 (PC is its address plus 3), high byte at 0x0100 + SP and low byte below it with SP wrapping in
page 1, SP falls by 2, PC is the target, 6 cycles; every other byte, every flag and every other register is unchanged.
[R241] -/
def Obligations.JsrPushesReturnAddressMinusOne : Prop :=
  ∀ (w : Addr) (s : State), encode (.jsr w) = [0x20#8, lo w, hi w] ∧ ∃ u, exec (.jsr w) s = .next u ∧
    u = { s with pc := w, sp := s.sp - 2#8, cyc := s.cyc + 6, mem := u.mem, bus := s.bus.drop 2,
                 busLog := s.busLog ++ [.write (stackAddr s.sp) (hi (s.pc - 1#16)),
                   .write (stackAddr (s.sp - 1#8)) (lo (s.pc - 1#16))] } ∧
    readByte u (stackAddr s.sp) = storedByte s 0 (stackAddr s.sp) (hi (s.pc - 1#16)) ∧
    readByte u (stackAddr (s.sp - 1#8)) = storedByte s 1 (stackAddr (s.sp - 1#8)) (lo (s.pc - 1#16)) ∧
    ∀ a, a ≠ stackAddr s.sp → a ≠ stackAddr (s.sp - 1#8) → readByte u a = readByte s a

/-- RTS (60) reads at 0x0100 + SP + 1 and + 2 (wrapping in page 1), loads PC with that 16-bit value plus 1 modulo 65536,
SP rises by 2, 6 cycles, nothing else changes; a halt on a pull leaves SP incremented for each pull started, and PC.
[R242] -/
def Obligations.RtsPullsAndAddsOne : Prop :=
  ∀ (s : State) (p q : Addr), p = stackAddr (s.sp + 1#8) → q = stackAddr (s.sp + 2#8) →
    encode .rts = [0x60#8] ∧
    (isHalt s p = false → isHalt s q = false → ∃ pc' : Addr,
      pc'.toNat = ((busRead s 1 q).toNat * 256 + (busRead s 0 p).toNat + 1) % 65536 ∧
      exec .rts s = .next { s with
        pc := pc', sp := s.sp + 2#8, cyc := s.cyc + 6, bus := s.bus.drop 2,
        busLog := s.busLog ++ [.read p, .read q] }) ∧
    (isHalt s p = true → exec .rts s = .next { haltedWith s s.bus (s.busLog ++ [.read p]) with sp := s.sp + 1#8 }) ∧
    (isHalt s p = false → isHalt s q = true →
      exec .rts s = .next { haltedWith s (s.bus.drop 1) (s.busLog ++ [.read p, .read q]) with sp := s.sp + 2#8 })

/-- PHA (48) writes A, PHP (08) writes P with B and bit 5 forced to 1, at 0x0100 + SP; SP falls by one, 3 cycles; no flag,
no other register and no other byte changes. [R250; R252] -/
def Obligations.PushInstructionsStoreOnTheStack : Prop :=
  ∀ s : State, encode .pha = [0x48#8] ∧ encode .php = [0x08#8] ∧
    ∀ (i : Instr) (v : Byte), (i = .pha ∧ v = s.a) ∨ (i = .php ∧ v = pack s.flags true true) →
      ∃ u, exec i s = .next u ∧
        u = { s with
              sp := s.sp - 1#8, cyc := s.cyc + 3, mem := u.mem, bus := s.bus.drop 1,
              busLog := s.busLog ++ [.write (stackAddr s.sp) v] } ∧
        readByte u (stackAddr s.sp) = storedByte s 0 (stackAddr s.sp) v ∧ ∀ a, a ≠ stackAddr s.sp → readByte u a = readByte s a

/-- PLA (68) and PLP (28) read at 0x0100 + SP + 1 and raise SP by one, 4 cycles. PLA loads A and sets Z and N from the
byte; PLP writes all seven flags from it and ignores bit 5. Where the pull halts, SP stays incremented and A and the
flags are unchanged. [R251; R253] -/
def Obligations.PullInstructionsLoadFromTheStack : Prop :=
  ∀ (s : State) (p : Addr), p = stackAddr (s.sp + 1#8) →
    encode .pla = [0x68#8] ∧ encode .plp = [0x28#8] ∧
    (isHalt s p = false →
      exec .pla s = .next { s with
        a := busRead s 0 p, flags := zn (busRead s 0 p) s.flags, sp := s.sp + 1#8, cyc := s.cyc + 4,
        bus := s.bus.drop 1, busLog := s.busLog ++ [.read p] } ∧
      exec .plp s = .next { s with
        flags := { n := (busRead s 0 p).getLsbD 7, v := (busRead s 0 p).getLsbD 6, b := (busRead s 0 p).getLsbD 4,
                   d := (busRead s 0 p).getLsbD 3, i := (busRead s 0 p).getLsbD 2, z := (busRead s 0 p).getLsbD 1,
                   c := (busRead s 0 p).getLsbD 0 },
        sp := s.sp + 1#8, cyc := s.cyc + 4, bus := s.bus.drop 1, busLog := s.busLog ++ [.read p] }) ∧
    (isHalt s p = true →
      exec .pla s = .next { haltedWith s s.bus (s.busLog ++ [.read p]) with sp := s.sp + 1#8 } ∧
      exec .plp s = .next { haltedWith s s.bus (s.busLog ++ [.read p]) with sp := s.sp + 1#8 })

/-- Each has its opcode, costs 2, sets or clears exactly the named flag and changes nothing else; NOP (EA) costs 2 and
changes nothing. [R254; R255; R256; R257; R258; R259; R260; R261] -/
def Obligations.FlagInstructionsWriteOneFlag : Prop :=
  ImpliedForm .clc 0x18#8 2 (fun s => { s with flags := { s.flags with c := false } }) ∧
  ImpliedForm .sec 0x38#8 2 (fun s => { s with flags := { s.flags with c := true } }) ∧
  ImpliedForm .cli 0x58#8 2 (fun s => { s with flags := { s.flags with i := false } }) ∧
  ImpliedForm .sei 0x78#8 2 (fun s => { s with flags := { s.flags with i := true } }) ∧
  ImpliedForm .cld 0xD8#8 2 (fun s => { s with flags := { s.flags with d := false } }) ∧
  ImpliedForm .sed 0xF8#8 2 (fun s => { s with flags := { s.flags with d := true } }) ∧
  ImpliedForm .clv 0xB8#8 2 (fun s => { s with flags := { s.flags with v := false } }) ∧
  ImpliedForm .nop 0xEA#8 2 (fun s => s)

/-- BRK (00) saves PC + 1 (its address plus 2) high byte first and the status byte with bits 4 and 5 set, SP falls by 3, B
= 1, I = 1, D and the others unchanged, PC from the vector at 0xFFFE/0xFFFF, 7 cycles; where a vector read halts, the
pushes, SP, B, I are done, PC is its address plus 2, and no cycle is added. The padding byte is not read. [R270] -/
def Obligations.BrkTakesTheSoftwareInterrupt : Prop :=
  ∀ s : State, encode .brk = [0x00#8] ∧
    (isHalt s 0xFFFE#16 = false → isHalt s 0xFFFF#16 = false → ∃ u, exec .brk s = .next u ∧
      EntryDone s u 0xFFFE#16 (s.pc + 1#16) true { s.flags with b := true }) ∧
    (isHalt s 0xFFFE#16 = true ∨ isHalt s 0xFFFF#16 = true → ∃ u, exec .brk s = .next u ∧
      EntryHalted s u 0xFFFE#16 (s.pc + 1#16) true { s.flags with b := true })

/-- RTI (40) pulls three bytes: all seven flags come from the first (bit 5 ignored), PC from the next two with nothing
added; SP rises by 3, 6 cycles, nothing else changes. A halt on a pull leaves every flag and PC unchanged and SP
incremented for each pull started. [R271] -/
def Obligations.RtiRestoresStatusThenProgramCounter : Prop :=
  ∀ (s : State) (p q r : Addr),
    p = stackAddr (s.sp + 1#8) → q = stackAddr (s.sp + 2#8) → r = stackAddr (s.sp + 3#8) →
    encode .rti = [0x40#8] ∧
    (isHalt s p = false → isHalt s q = false → isHalt s r = false → ∃ pc' : Addr,
      pc'.toNat = (busRead s 2 r).toNat * 256 + (busRead s 1 q).toNat ∧
      exec .rti s = .next { s with
        flags := { n := (busRead s 0 p).getLsbD 7, v := (busRead s 0 p).getLsbD 6, b := (busRead s 0 p).getLsbD 4,
                   d := (busRead s 0 p).getLsbD 3, i := (busRead s 0 p).getLsbD 2, z := (busRead s 0 p).getLsbD 1,
                   c := (busRead s 0 p).getLsbD 0 },
        pc := pc', sp := s.sp + 3#8, cyc := s.cyc + 6, bus := s.bus.drop 3,
        busLog := s.busLog ++ [.read p, .read q, .read r] }) ∧
    (isHalt s p = true → exec .rti s = .next { haltedWith s s.bus (s.busLog ++ [.read p]) with sp := s.sp + 1#8 }) ∧
    (isHalt s p = false → isHalt s q = true →
      exec .rti s = .next { haltedWith s (s.bus.drop 1) (s.busLog ++ [.read p, .read q]) with sp := s.sp + 2#8 }) ∧
    (isHalt s p = false → isHalt s q = false → isHalt s r = true →
      exec .rti s = .next { haltedWith s (s.bus.drop 2) (s.busLog ++ [.read p, .read q, .read r]) with sp := s.sp + 3#8 })

/-- With the default bus (under another, what a read returns is BUS_READ's business): if a state has the SP and the two
stacked bytes that JSR left, RTS there sets PC to the PC that JSR found (its address plus 3, across the wrap too) and
SP to the SP before the JSR, in 6 cycles, and changes nothing else. The clause across the wrap is the spec's own
derivation. [47_jump_subroutine.md (round trip of JSR and RTS); 20_memory.md section 6 (consistency model)] -/
def Obligations.JsrThenRtsReturnsPastTheJsr : Prop :=
  ∀ (s u v : State) (w : Addr), RamBus s → RamBus v → exec (.jsr w) s = .next u →
    v.sp = u.sp → readByte v (stackAddr s.sp) = readByte u (stackAddr s.sp) →
    readByte v (stackAddr (s.sp - 1#8)) = readByte u (stackAddr (s.sp - 1#8)) →
    isHalt v (stackAddr s.sp) = false → isHalt v (stackAddr (s.sp - 1#8)) = false →
    exec .rts v = .next { v with
      pc := s.pc, sp := s.sp, cyc := v.cyc + 6, bus := v.bus.drop 2,
      busLog := v.busLog ++ [.read (stackAddr (s.sp - 1#8)), .read (stackAddr s.sp)] }

/-- With the default bus (under another, what a read returns is BUS_READ's business): if a state has the SP and the three
stacked bytes that BRK left (whether or not its vector read halted), RTI there sets PC to BRK's address plus 2, SP to
the SP before BRK, every flag to what it was before BRK but B, which is 1, in 6 cycles, and changes nothing else.
[49_break_interrupt.md (BRK and RTI); 60_exceptions.md section 2 (return and nesting); 20_memory.md section 6
(consistency model)] -/
def Obligations.BrkThenRtiResumesPastThePadding : Prop :=
  ∀ s u v : State, RamBus s → RamBus v → exec .brk s = .next u → v.sp = u.sp →
    (∀ k : Byte, k.toNat ≤ 2 → readByte v (stackAddr (s.sp - k)) = readByte u (stackAddr (s.sp - k)) ∧
      isHalt v (stackAddr (s.sp - k)) = false) →
    exec .rti v = .next { v with
      pc := s.pc + 1#16, sp := s.sp, flags := { s.flags with b := true }, cyc := v.cyc + 6, bus := v.bus.drop 3,
      busLog := v.busLog ++
        [.read (stackAddr (s.sp - 2#8)), .read (stackAddr (s.sp - 1#8)), .read (stackAddr s.sp)] }

/-- For every instruction in every state exec answers a next state, and so does every step. That stops are next states
with RUN = Halted is the model's reading of "No behaviour of this core is treated as `fault`" (log entry 9).
[93_implementation_defined.md section 1; 60_exceptions.md section 3] -/
def Obligations.EveryStepAnswersANextState : Prop :=
  (∀ (i : Instr) (s : State), ∃ t, exec i s = .next t) ∧ ∀ s : State, ∃ t, step s = .next t

/-- For every instruction but BRK: if it ends a run in progress, it made only bus reads and the state is as before it but
for RUN, Run's answer, the bus calls made and, in PLA, PLP, RTS and RTI, SP raised by one for each pull started: as
many as the reads, one to three. No other instruction moves SP then. CYC is unchanged. [40_execution.md section 5
(halt in the middle of a step, the table)] -/
def Obligations.HaltedInstructionsLeaveTheStateOfTheTable : Prop :=
  ∀ (i : Instr) (s t : State), s.run = .running → exec i s = .next t → t.run = .halted → i ≠ .brk →
    ∃ (reads : List Addr) (n : Byte), reads ≠ [] ∧
      t = { haltedWith s (s.bus.drop (reads.length - 1)) (s.busLog ++ reads.map BusCall.read) with sp := s.sp + n } ∧
      (i = .pla ∨ i = .plp ∨ i = .rts ∨ i = .rti → n.toNat = reads.length ∧ n.toNat ≤ 3) ∧
      (i ≠ .pla → i ≠ .plp → i ≠ .rts → i ≠ .rti → n = 0#8)

/-- For all 151 instructions in every state: a flag that the row's "flags written" column does not list has the same value
after the instruction as before, completed or halted. [30_encoding.md section 3 (R88, the half that says what is
kept); 30_encoding.md section 2 (flags written)] -/
def Obligations.OnlyTheFlagsOfTheTableChange : Prop :=
  ∀ (i : Instr) (s t : State) (f : Flag), exec i s = .next t → f ∉ flagsWritten i → t.flags.get f = s.flags.get f

/-- For all 151 instructions in every state: a register of A, X, Y, SP that the access summary does not list for the
instruction has the same value after it as before; and no instruction changes the NMI latch, the halt predicate, the
budget, the inputs or the caller's pending operations. [10_state.md section 6 (access summary); 10_state.md section 4] -/
def Obligations.OnlyTheListedInstructionsWriteRegisters : Prop :=
  ∀ (i : Instr) (s t : State), exec i s = .next t →
    (∀ r : Reg, r ∉ registersWritten i → getReg r t = getReg r s) ∧
    t.nmiPending = s.nmiPending ∧ t.haltAddrs = s.haltAddrs ∧ t.budget = s.budget ∧ t.irqLine = s.irqLine ∧
    t.nmiEdge = s.nmiEdge ∧ t.calls = s.calls

/-- For every step of a run in progress, memory afterwards is what the bus writes of that step that the RAM serves, in
their order, make of memory before; and the bus has served each call of the step once, a halting read not at all. How
the bus is held (log entry 1) and the bus log (log entry 8) are the model's own. [20_memory.md section 6; 20_memory.md
section 1] -/
def Obligations.MemoryChangesOnlyByTheBusWritesOfTheStep : Prop :=
  ∀ s t : State, s.run = .running → step s = .next t →
    t.mem = replay t.busLog s.bus s.mem ∧ t.bus = s.bus.drop (servedCalls s t.busLog).length

/-- For every step of a run in progress: if its bus log holds a read of a halt address, that read is its last bus call,
RUN is Halted afterwards, Run answers (CYC, halted) and CYC is unchanged. [20_memory.md section 1 (the halt signal);
40_execution.md section 5 (halt in the middle of a step); 60_exceptions.md section 3] -/
def Obligations.NoBusCallFollowsAHaltingRead : Prop :=
  ∀ (s t : State) (before after : List BusCall) (a : Addr), s.run = .running → step s = .next t →
    t.busLog = before ++ .read a :: after → isHalt s a = true →
    after = [] ∧ t.run = .halted ∧ t.cyc = s.cyc ∧ t.reply = some (.ran s.cyc .halted)

/-- For every step of a run in progress, either RUN stays Running and CYC grows by at least 2 and at most 7, or RUN
becomes Halted and CYC is unchanged; the budget, the halt predicate and the caller's pending operations stay.
[60_exceptions.md section 3 (budget_exhausted); 70_reset_and_hazards.md section 4; 30_encoding.md section 2] -/
def Obligations.EachStepOfARunCostsTwoToSevenOrEndsIt : Prop :=
  ∀ s t : State, s.run = .running → step s = .next t →
    ((t.run = .running ∧ s.cyc + 2 ≤ t.cyc ∧ t.cyc ≤ s.cyc + 7) ∨ (t.run = .halted ∧ t.cyc = s.cyc)) ∧
    t.budget = s.budget ∧ t.haltAddrs = s.haltAddrs ∧ t.calls = s.calls

/-- From every state with a run in progress, whatever the program, the memory, the interrupts and the halt predicate, some
number of steps not above half the cycles left (rounded up) plus one leads to RUN = Halted. [60_exceptions.md section
3 (budget_exhausted: every run ends)] -/
def Obligations.EveryRunEnds : Prop :=
  ∀ s : State, s.run = .running → ∃ (k : Nat) (t : State), k ≤ (s.budget - s.cyc + 1) / 2 + 1 ∧
    Host.Core.run Sys2Proof.core k s = .next t ∧ t.run = .halted

/-- If a step clears a set NMI latch, then either a run below its budget was in progress, the step pushed three bytes and,
unless it halted, loaded PC from 0xFFFA (it was the NMI entry), or the core was Halted and the caller's operation was
Reset. [60_exceptions.md section 1 (NMI)] -/
def Obligations.NmiPendingIsClearedOnlyByEntryOrReset : Prop :=
  ∀ s t : State, step s = .next t →
    (s.run = .running → s.cyc < s.budget → s.nmiEdge.headD false = true → s.nmiPending = false → t = nmiEntry
      { sampled s [] with nmiPending := true }) ∧
    (s.nmiPending = true → t.nmiPending = false →
      (s.run = .running ∧ s.cyc < s.budget ∧ t = nmiEntry (sampled s [])) ∨
      (s.run = .halted ∧ s.calls.head? = some .reset))

/-- If a run is in progress below its budget, no interrupt is to be taken, the bytes that the bus answers at PC and after
it (addresses modulo 65536) decode to an instruction, and none of its bytes halts, the step is that instruction's
meaning in the state with PC past the instruction, the inputs of this boundary consumed and the instruction's bytes as
the bus reads so far. [40_execution.md section 1; 40_execution.md section 2; 30_encoding.md section 1] -/
def Obligations.AStepRunsTheDecodedInstruction : Prop :=
  ∀ (s : State) (i : Instr) (rest : List Byte), Quiet s →
    decode [busRead s 0 s.pc, busRead s 1 (s.pc + 1#16), busRead s 2 (s.pc + 2#16)] = .ok (i, rest) →
    (∀ k, k < i.length → isHalt s (s.pc + BitVec.ofNat 16 k) = false) →
    step s = exec i { sampled s ((List.range i.length).map fun k => BusCall.read (s.pc + BitVec.ofNat 16 k)) with
      bus := s.bus.drop i.length, pc := s.pc + BitVec.ofNat 16 i.length }

/-- With nothing to take at the boundary: a halt on the opcode fetch leaves PC at the opcode; on the first operand byte PC
is that byte's address, but the next instruction's for the immediate mode; on the second operand byte PC is that
byte's address; nothing else changes. [40_execution.md section 5 (the table: opcode fetch, operand byte, data read);
40_execution.md section 3 (immediate)] -/
def Obligations.AHaltedFetchLeavesPcAtTheByte : Prop :=
  ∀ (s : State) (m : Mode), Quiet s →
    (isHalt s s.pc = true → step s = .next (haltedWith (sampled s []) s.bus [.read s.pc])) ∧
    (isHalt s s.pc = false → opcodeMode (busRead s 0 s.pc) = some m → 1 ≤ m.operandBytes →
      isHalt s (s.pc + 1#16) = true → step s = .next
        { haltedWith (sampled s []) (s.bus.drop 1) [.read s.pc, .read (s.pc + 1#16)] with
          pc := if m = .immediate then s.pc + 2#16 else s.pc + 1#16 }) ∧
    (isHalt s s.pc = false → opcodeMode (busRead s 0 s.pc) = some m → m.operandBytes = 2 →
      isHalt s (s.pc + 1#16) = false → isHalt s (s.pc + 2#16) = true → step s = .next
        { haltedWith (sampled s []) (s.bus.drop 2) [.read s.pc, .read (s.pc + 1#16), .read (s.pc + 2#16)] with
          pc := s.pc + 2#16 })

/-- With nothing to take at the boundary and a listed illegal opcode at PC, the step stops the run with
illegal_opcode(op), PC is the opcode's address, no register, flag, byte of memory or cycle count changes, and the
opcode read is the one bus call. [R293] -/
def Obligations.AnIllegalOpcodeStopsTheRun : Prop :=
  ∀ s : State, Quiet s → isHalt s s.pc = false → busRead s 0 s.pc ∈ illegalOpcodes →
    step s = .next { sampled s [.read s.pc] with
      run := .halted, reply := some (.ran s.cyc (.illegalOpcode (busRead s 0 s.pc))), bus := s.bus.drop 1 }

/-- If CYC is at or above the budget, the step of a run stops it with budget_exhausted and CYC, makes no bus call, samples
no input and changes nothing else. [40_execution.md section 1 (run loop); 60_exceptions.md section 1 (priority at a
boundary); 60_exceptions.md section 3] -/
def Obligations.AnExhaustedBudgetStopsBeforeAnythingElse : Prop :=
  ∀ s : State, s.run = .running → s.budget ≤ s.cyc →
    step s = .next { s with run := .halted, reply := some (.ran s.cyc .budgetExhausted), busLog := [] }

/-- In a run below its budget with the latch set or an edge at this boundary, the step is the NMI entry: the latch is
clear, PC and the status byte with bit 4 = 0 are saved, SP falls by 3, I = 1, B and D stay, PC is from the vector, 7
cycles; where a vector read halts, the pushes and I = 1 are done, PC is unchanged and no cycle is added. [R281; R283;
R284; R285] -/
def Obligations.AnNmiIsTakenBeforeAnIrqAndWhateverIIs : Prop :=
  ∀ s s' : State, s.run = .running → s.cyc < s.budget → (s.nmiPending = true ∨ s.nmiEdge.headD false = true) →
    s' = { sampled s [] with nmiPending := false } →
    (isHalt s 0xFFFA#16 = false → isHalt s 0xFFFB#16 = false → ∃ u, step s = .next u ∧
      EntryDone s' u 0xFFFA#16 s.pc false s.flags) ∧
    (isHalt s 0xFFFA#16 = true ∨ isHalt s 0xFFFB#16 = true → ∃ u, step s = .next u ∧
      EntryHalted s' u 0xFFFA#16 s.pc false s.flags)

/-- In a run below its budget with no NMI pending or arriving and the IRQ line asserted: if I = 0, PC and the status byte
with bit 4 = 0 are saved, SP falls by 3, I = 1, B and D stay, PC is from 0xFFFE, 7 cycles (halted on a vector read as
R122 says); if I = 1, or with the line low, the step fetches and runs the next instruction. [R282; R283; R284; R286] -/
def Obligations.AnIrqIsTakenOnlyWithIClear : Prop :=
  ∀ s : State, s.run = .running → s.cyc < s.budget → s.nmiPending = false → s.nmiEdge.headD false = false →
    (s.irqLine.headD false = true → s.flags.i = false →
      (isHalt s 0xFFFE#16 = false → isHalt s 0xFFFF#16 = false → ∃ u, step s = .next u ∧
        EntryDone (sampled s []) u 0xFFFE#16 s.pc false s.flags) ∧
      (isHalt s 0xFFFE#16 = true ∨ isHalt s 0xFFFF#16 = true → ∃ u, step s = .next u ∧
        EntryHalted (sampled s []) u 0xFFFE#16 s.pc false s.flags)) ∧
    (s.irqLine.headD false = false ∨ s.flags.i = true → step s = fetchStep (sampled s []))

/-- Construct over any memory, bus and halt predicate binds these and sets A, X, Y to 0, SP to 0xFD, PC to 0, I to 1 and
the other flags to 0 (packed 0x24), CYC to 0, RUN to Halted and the NMI latch to false; State.reset is that with the
default halt predicate (only 0xFFFF) and the default bus, a RAM of which every byte reads 0x00. That fill value is the
model's choice (log entry 2); so are the form of the bus and of the halt predicate, the empty bus log, and the budget,
inputs, pending operations and answer, which are not compared here (log entries 1 and 3 to 8). [R320; R46; R53; R69] -/
def Obligations.TheConstructedCoreHasTheListedState : Prop :=
  (∀ (mem : Memory) (bus : List BusService) (halts : List Addr) (s : State), s = State.construct mem bus halts →
    s.a = 0x00#8 ∧ s.x = 0x00#8 ∧ s.y = 0x00#8 ∧ s.sp = 0xFD#8 ∧ s.pc = 0x0000#16 ∧
    s.flags = { c := false, z := false, i := true, d := false, b := false, v := false, n := false } ∧
    (inspect s).p = 0x24#8 ∧ s.cyc = 0 ∧ s.run = .halted ∧ s.nmiPending = false ∧ s.busLog = [] ∧ s.mem = mem ∧
    s.bus = bus ∧ ∀ a, isHalt s a = true ↔ a ∈ halts) ∧
  RamBus State.reset ∧ (∀ a : Addr, (isHalt State.reset a = true ↔ a = 0xFFFF#16) ∧ readByte State.reset a = 0x00#8)

/-- When the caller's next operation is Reset: A, X, Y are 0, SP 0xFD, I = 1 and the other flags 0, the NMI latch clear,
PC from 0xFFFC/0xFFFD, CYC and RUN and memory unchanged, answer ok; where a vector read halts, all but PC is the same,
PC is unchanged and the answer is halted. The queue of operations and the place of the answer are the model's own (log
entries 6 and 7). [R321] -/
def Obligations.ResetLoadsTheVectorAndTheListedState : Prop :=
  ∀ (s : State) (cs : List Call) (s' : State), s.run = .halted → s.calls = .reset :: cs →
    s' = { s with
           a := 0x00#8, x := 0x00#8, y := 0x00#8, sp := 0xFD#8, nmiPending := false, calls := cs,
           flags := { c := false, z := false, i := true, d := false, b := false, v := false, n := false } } →
    (isHalt s 0xFFFC#16 = false → isHalt s 0xFFFD#16 = false → step s = .next { s' with
      pc := a16 (busRead s 0 0xFFFC#16) (busRead s 1 0xFFFD#16), reply := some .resetOk, bus := s.bus.drop 2,
      busLog := [.read 0xFFFC#16, .read 0xFFFD#16] }) ∧
    (isHalt s 0xFFFC#16 = true → step s = .next { s' with
      reply := some .resetHalted, busLog := [.read 0xFFFC#16] }) ∧
    (isHalt s 0xFFFC#16 = false → isHalt s 0xFFFD#16 = true → step s = .next { s' with
      reply := some .resetHalted, bus := s.bus.drop 1, busLog := [.read 0xFFFC#16, .read 0xFFFD#16] })

/-- A step of a run performs no operation of the caller: all stay pending. A Halted core with no pending operation stays
exactly as it is. Run sets CYC to its argument and RUN to Running with the budget and inputs given. A setter of PC, a
register or a flag writes that alone; reading back gives the value and every other register and flag as before. The
queue is the model's own (log entry 6). [10_state.md section 5 (interfaces of the block); 60_exceptions.md section 4
(power states)] -/
def Obligations.TheCallerActsOnlyOnAHaltedCore : Prop :=
  ∀ (s s' : State) (c : Call) (cs : List Call),
    (s.run = .running → ∀ t, step s = .next t → t.calls = s.calls) ∧
    (s.run = .halted → s.calls = [] → step s = .next s) ∧
    (s.run = .halted → s.calls = c :: cs → s' = { s with calls := cs, busLog := [] } →
      (∀ budget cyc irq nmi, c = .run budget cyc irq nmi → step s = .next { s' with
        cyc := cyc, run := .running, budget := budget, irqLine := irq, nmiEdge := nmi, reply := none }) ∧
      (∀ v, c = .setPc v → step s = .next { s' with pc := v }) ∧
      (∀ r v, c = .setReg r v → ∃ t, step s = .next t ∧
        t = { s' with a := t.a, x := t.x, y := t.y, sp := t.sp } ∧
        ∀ r', getReg r' t = if r' = r then v else getReg r' s) ∧
      (∀ f b, c = .setFlag f b → ∃ t, step s = .next t ∧ t = { s' with flags := t.flags } ∧
        ∀ f', getFlag f' t = if f' = f then b else getFlag f' s))

/-- From every state (reached or not) in which memory is in canonical form with all addresses below 65536, no answer waits
during a run, and an answer of Run holds the cycle counter, every step leads to such a state. The canonical form and
the answer's place are the model's own (log entries 2 and 7). [20_memory.md section 1; 10_state.md section 5;
60_exceptions.md section 3] -/
def Obligations.EveryStepKeepsTheInvariant : Prop :=
  ∀ s t : State, s.Inv → step s = .next t → t.Inv

/-- State.construct over a canonical memory meets the invariant, and State.reset does. [10_state.md section 7] -/
def Obligations.TheResetStateMeetsTheInvariant : Prop :=
  (∀ (m : Memory) (bus : List BusService) (halts : List Addr), Memory.wf m = true → (State.construct m bus halts).Inv) ∧ State.reset.Inv
end

