-- ==== Sys2Proof/Laws/Bits.lean ====
section
/-! SUPPORT. The byte and address helpers as arithmetic, and splitting and joining an address. -/

namespace Sys2Proof.Machine

theorem lo_toNat (a : Addr) : (lo a).toNat = a.toNat % 256 := by
  simp [lo, BitVec.extractLsb'_toNat]

theorem hi_toNat (a : Addr) : (hi a).toNat = a.toNat / 256 := by
  have := a.isLt
  simp only [hi, BitVec.extractLsb'_toNat, Nat.shiftRight_eq_div_pow]
  omega

theorem a16_toNat (l h : Byte) : (a16 l h).toNat = h.toNat * 256 + l.toNat := by
  have := l.isLt
  simp only [a16, BitVec.toNat_append]
  rw [← Nat.shiftLeft_add_eq_or_of_lt (by omega), Nat.shiftLeft_eq]

theorem zext16_toNat (b : Byte) : (zext16 b).toNat = b.toNat := by
  have := b.isLt
  simp only [zext16, BitVec.toNat_setWidth]
  omega

theorem stackAddr_toNat (sp : Byte) : (stackAddr sp).toNat = 256 + sp.toNat := by
  have := sp.isLt
  simp only [stackAddr, BitVec.toNat_add, zext16_toNat, BitVec.toNat_ofNat]
  omega

@[simp] theorem a16_lo_hi (a : Addr) : a16 (lo a) (hi a) = a := by
  apply BitVec.eq_of_toNat_eq
  rw [a16_toNat, lo_toNat, hi_toNat]
  omega

@[simp] theorem lo_a16 (l h : Byte) : lo (a16 l h) = l := by
  have := l.isLt
  apply BitVec.eq_of_toNat_eq
  rw [lo_toNat, a16_toNat]
  omega

@[simp] theorem hi_a16 (l h : Byte) : hi (a16 l h) = h := by
  have := l.isLt
  apply BitVec.eq_of_toNat_eq
  rw [hi_toNat, a16_toNat]
  omega

/-- Every address is its low and high byte joined. -/
theorem exists_a16 (w : Addr) : ∃ l h, w = a16 l h := ⟨lo w, hi w, (a16_lo_hi w).symm⟩

/-- Two stack addresses agree only for the same SP (R25). -/
theorem stackAddr_inj {p q : Byte} : stackAddr p = stackAddr q ↔ p = q := by
  constructor
  · intro h
    have h' := congrArg BitVec.toNat h
    rw [stackAddr_toNat, stackAddr_toNat] at h'
    exact BitVec.eq_of_toNat_eq (by omega)
  · exact fun h => h ▸ rfl

end Sys2Proof.Machine
end

