-- ==== Sys2Proof/Laws/State.lean ====
section
/-! SUPPORT. What each named update of the state does to each field, one lemma per field, so that no later proof unfolds one. -/

namespace Sys2Proof.Machine

variable (s : State)

@[simp] theorem logCall_a (c : BusCall) : (logCall c s).a = s.a := rfl
@[simp] theorem logCall_x (c : BusCall) : (logCall c s).x = s.x := rfl
@[simp] theorem logCall_y (c : BusCall) : (logCall c s).y = s.y := rfl
@[simp] theorem logCall_sp (c : BusCall) : (logCall c s).sp = s.sp := rfl
@[simp] theorem logCall_pc (c : BusCall) : (logCall c s).pc = s.pc := rfl
@[simp] theorem logCall_flags (c : BusCall) : (logCall c s).flags = s.flags := rfl
@[simp] theorem logCall_cyc (c : BusCall) : (logCall c s).cyc = s.cyc := rfl
@[simp] theorem logCall_run (c : BusCall) : (logCall c s).run = s.run := rfl
@[simp] theorem logCall_nmiPending (c : BusCall) : (logCall c s).nmiPending = s.nmiPending := rfl
@[simp] theorem logCall_mem (c : BusCall) : (logCall c s).mem = s.mem := rfl
@[simp] theorem logCall_bus (c : BusCall) : (logCall c s).bus = s.bus := rfl
@[simp] theorem logCall_haltAddrs (c : BusCall) : (logCall c s).haltAddrs = s.haltAddrs := rfl
@[simp] theorem logCall_budget (c : BusCall) : (logCall c s).budget = s.budget := rfl
@[simp] theorem logCall_irqLine (c : BusCall) : (logCall c s).irqLine = s.irqLine := rfl
@[simp] theorem logCall_nmiEdge (c : BusCall) : (logCall c s).nmiEdge = s.nmiEdge := rfl
@[simp] theorem logCall_calls (c : BusCall) : (logCall c s).calls = s.calls := rfl
@[simp] theorem logCall_reply (c : BusCall) : (logCall c s).reply = s.reply := rfl
@[simp] theorem logCall_busLog (c : BusCall) : (logCall c s).busLog = s.busLog ++ [c] := rfl
@[simp] theorem logCall_isHalt (c : BusCall) (k : Addr) : isHalt (logCall c s) k = isHalt s k := rfl
@[simp] theorem logCall_serviceAt (c : BusCall) (k : Nat) : serviceAt (logCall c s) k = serviceAt s k := rfl
@[simp] theorem logCall_busRead (c : BusCall) (k : Nat) (addr : Addr) : busRead (logCall c s) k addr = busRead s k addr := rfl
@[simp] theorem logCall_readByte (c : BusCall) (k : Addr) : readByte (logCall c s) k = readByte s k := rfl

@[simp] theorem served_a (c : BusCall) : (served c s).a = s.a := rfl
@[simp] theorem served_x (c : BusCall) : (served c s).x = s.x := rfl
@[simp] theorem served_y (c : BusCall) : (served c s).y = s.y := rfl
@[simp] theorem served_sp (c : BusCall) : (served c s).sp = s.sp := rfl
@[simp] theorem served_pc (c : BusCall) : (served c s).pc = s.pc := rfl
@[simp] theorem served_flags (c : BusCall) : (served c s).flags = s.flags := rfl
@[simp] theorem served_cyc (c : BusCall) : (served c s).cyc = s.cyc := rfl
@[simp] theorem served_run (c : BusCall) : (served c s).run = s.run := rfl
@[simp] theorem served_nmiPending (c : BusCall) : (served c s).nmiPending = s.nmiPending := rfl
@[simp] theorem served_mem (c : BusCall) : (served c s).mem = s.mem := rfl
@[simp] theorem served_bus (c : BusCall) : (served c s).bus = s.bus.drop 1 := rfl
@[simp] theorem served_haltAddrs (c : BusCall) : (served c s).haltAddrs = s.haltAddrs := rfl
@[simp] theorem served_budget (c : BusCall) : (served c s).budget = s.budget := rfl
@[simp] theorem served_irqLine (c : BusCall) : (served c s).irqLine = s.irqLine := rfl
@[simp] theorem served_nmiEdge (c : BusCall) : (served c s).nmiEdge = s.nmiEdge := rfl
@[simp] theorem served_calls (c : BusCall) : (served c s).calls = s.calls := rfl
@[simp] theorem served_reply (c : BusCall) : (served c s).reply = s.reply := rfl
@[simp] theorem served_busLog (c : BusCall) : (served c s).busLog = s.busLog ++ [c] := rfl
@[simp] theorem served_isHalt (c : BusCall) (k : Addr) : isHalt (served c s) k = isHalt s k := rfl
@[simp] theorem served_readByte (c : BusCall) (k : Addr) : readByte (served c s) k = readByte s k := rfl

@[simp] theorem memWrite_a (p : Addr) (v : Byte) : (memWrite p v s).a = s.a := rfl
@[simp] theorem memWrite_x (p : Addr) (v : Byte) : (memWrite p v s).x = s.x := rfl
@[simp] theorem memWrite_y (p : Addr) (v : Byte) : (memWrite p v s).y = s.y := rfl
@[simp] theorem memWrite_sp (p : Addr) (v : Byte) : (memWrite p v s).sp = s.sp := rfl
@[simp] theorem memWrite_pc (p : Addr) (v : Byte) : (memWrite p v s).pc = s.pc := rfl
@[simp] theorem memWrite_flags (p : Addr) (v : Byte) : (memWrite p v s).flags = s.flags := rfl
@[simp] theorem memWrite_cyc (p : Addr) (v : Byte) : (memWrite p v s).cyc = s.cyc := rfl
@[simp] theorem memWrite_run (p : Addr) (v : Byte) : (memWrite p v s).run = s.run := rfl
@[simp] theorem memWrite_nmiPending (p : Addr) (v : Byte) : (memWrite p v s).nmiPending = s.nmiPending := rfl
@[simp] theorem memWrite_mem (p : Addr) (v : Byte) : (memWrite p v s).mem = busWrite s p v := rfl
@[simp] theorem memWrite_bus (p : Addr) (v : Byte) : (memWrite p v s).bus = s.bus.drop 1 := rfl
@[simp] theorem memWrite_haltAddrs (p : Addr) (v : Byte) : (memWrite p v s).haltAddrs = s.haltAddrs := rfl
@[simp] theorem memWrite_budget (p : Addr) (v : Byte) : (memWrite p v s).budget = s.budget := rfl
@[simp] theorem memWrite_irqLine (p : Addr) (v : Byte) : (memWrite p v s).irqLine = s.irqLine := rfl
@[simp] theorem memWrite_nmiEdge (p : Addr) (v : Byte) : (memWrite p v s).nmiEdge = s.nmiEdge := rfl
@[simp] theorem memWrite_calls (p : Addr) (v : Byte) : (memWrite p v s).calls = s.calls := rfl
@[simp] theorem memWrite_reply (p : Addr) (v : Byte) : (memWrite p v s).reply = s.reply := rfl
@[simp] theorem memWrite_busLog (p : Addr) (v : Byte) : (memWrite p v s).busLog = s.busLog ++ [.write p v] := rfl
@[simp] theorem memWrite_isHalt (p : Addr) (v : Byte) (k : Addr) : isHalt (memWrite p v s) k = isHalt s k := rfl

@[simp] theorem push_a (v : Byte) : (push v s).a = s.a := rfl
@[simp] theorem push_x (v : Byte) : (push v s).x = s.x := rfl
@[simp] theorem push_y (v : Byte) : (push v s).y = s.y := rfl
@[simp] theorem push_sp (v : Byte) : (push v s).sp = s.sp - 1#8 := rfl
@[simp] theorem push_pc (v : Byte) : (push v s).pc = s.pc := rfl
@[simp] theorem push_flags (v : Byte) : (push v s).flags = s.flags := rfl
@[simp] theorem push_cyc (v : Byte) : (push v s).cyc = s.cyc := rfl
@[simp] theorem push_run (v : Byte) : (push v s).run = s.run := rfl
@[simp] theorem push_nmiPending (v : Byte) : (push v s).nmiPending = s.nmiPending := rfl
@[simp] theorem push_mem (v : Byte) : (push v s).mem = busWrite s (stackAddr s.sp) v := rfl
@[simp] theorem push_bus (v : Byte) : (push v s).bus = s.bus.drop 1 := rfl
@[simp] theorem push_haltAddrs (v : Byte) : (push v s).haltAddrs = s.haltAddrs := rfl
@[simp] theorem push_budget (v : Byte) : (push v s).budget = s.budget := rfl
@[simp] theorem push_irqLine (v : Byte) : (push v s).irqLine = s.irqLine := rfl
@[simp] theorem push_nmiEdge (v : Byte) : (push v s).nmiEdge = s.nmiEdge := rfl
@[simp] theorem push_calls (v : Byte) : (push v s).calls = s.calls := rfl
@[simp] theorem push_reply (v : Byte) : (push v s).reply = s.reply := rfl
@[simp] theorem push_busLog (v : Byte) : (push v s).busLog = s.busLog ++ [.write (stackAddr s.sp) v] := rfl
@[simp] theorem push_isHalt (v : Byte) (k : Addr) : isHalt (push v s) k = isHalt s k := rfl

@[simp] theorem stopRun_a (e : StopReason) : (stopRun e s).a = s.a := rfl
@[simp] theorem stopRun_x (e : StopReason) : (stopRun e s).x = s.x := rfl
@[simp] theorem stopRun_y (e : StopReason) : (stopRun e s).y = s.y := rfl
@[simp] theorem stopRun_sp (e : StopReason) : (stopRun e s).sp = s.sp := rfl
@[simp] theorem stopRun_pc (e : StopReason) : (stopRun e s).pc = s.pc := rfl
@[simp] theorem stopRun_flags (e : StopReason) : (stopRun e s).flags = s.flags := rfl
@[simp] theorem stopRun_cyc (e : StopReason) : (stopRun e s).cyc = s.cyc := rfl
@[simp] theorem stopRun_run (e : StopReason) : (stopRun e s).run = .halted := rfl
@[simp] theorem stopRun_nmiPending (e : StopReason) : (stopRun e s).nmiPending = s.nmiPending := rfl
@[simp] theorem stopRun_mem (e : StopReason) : (stopRun e s).mem = s.mem := rfl
@[simp] theorem stopRun_bus (e : StopReason) : (stopRun e s).bus = s.bus := rfl
@[simp] theorem stopRun_haltAddrs (e : StopReason) : (stopRun e s).haltAddrs = s.haltAddrs := rfl
@[simp] theorem stopRun_budget (e : StopReason) : (stopRun e s).budget = s.budget := rfl
@[simp] theorem stopRun_irqLine (e : StopReason) : (stopRun e s).irqLine = s.irqLine := rfl
@[simp] theorem stopRun_nmiEdge (e : StopReason) : (stopRun e s).nmiEdge = s.nmiEdge := rfl
@[simp] theorem stopRun_calls (e : StopReason) : (stopRun e s).calls = s.calls := rfl
@[simp] theorem stopRun_reply (e : StopReason) : (stopRun e s).reply = some (.ran s.cyc e) := rfl
@[simp] theorem stopRun_busLog (e : StopReason) : (stopRun e s).busLog = s.busLog := rfl
@[simp] theorem stopRun_isHalt (e : StopReason) (k : Addr) : isHalt (stopRun e s) k = isHalt s k := rfl
@[simp] theorem stopRun_serviceAt (e : StopReason) (k : Nat) : serviceAt (stopRun e s) k = serviceAt s k := rfl
@[simp] theorem stopRun_busRead (e : StopReason) (k : Nat) (addr : Addr) : busRead (stopRun e s) k addr = busRead s k addr := rfl
@[simp] theorem stopRun_readByte (e : StopReason) (k : Addr) : readByte (stopRun e s) k = readByte s k := rfl

@[simp] theorem sampleInputs_a : (sampleInputs s).a = s.a := rfl
@[simp] theorem sampleInputs_x : (sampleInputs s).x = s.x := rfl
@[simp] theorem sampleInputs_y : (sampleInputs s).y = s.y := rfl
@[simp] theorem sampleInputs_sp : (sampleInputs s).sp = s.sp := rfl
@[simp] theorem sampleInputs_pc : (sampleInputs s).pc = s.pc := rfl
@[simp] theorem sampleInputs_flags : (sampleInputs s).flags = s.flags := rfl
@[simp] theorem sampleInputs_cyc : (sampleInputs s).cyc = s.cyc := rfl
@[simp] theorem sampleInputs_run : (sampleInputs s).run = s.run := rfl
@[simp] theorem sampleInputs_nmiPending : (sampleInputs s).nmiPending = (s.nmiPending || nmiEdgeNow s) := rfl
@[simp] theorem sampleInputs_mem : (sampleInputs s).mem = s.mem := rfl
@[simp] theorem sampleInputs_bus : (sampleInputs s).bus = s.bus := rfl
@[simp] theorem sampleInputs_haltAddrs : (sampleInputs s).haltAddrs = s.haltAddrs := rfl
@[simp] theorem sampleInputs_budget : (sampleInputs s).budget = s.budget := rfl
@[simp] theorem sampleInputs_irqLine : (sampleInputs s).irqLine = s.irqLine.tail := rfl
@[simp] theorem sampleInputs_nmiEdge : (sampleInputs s).nmiEdge = s.nmiEdge.tail := rfl
@[simp] theorem sampleInputs_calls : (sampleInputs s).calls = s.calls := rfl
@[simp] theorem sampleInputs_reply : (sampleInputs s).reply = s.reply := rfl
@[simp] theorem sampleInputs_busLog : (sampleInputs s).busLog = s.busLog := rfl
@[simp] theorem sampleInputs_isHalt (k : Addr) : isHalt (sampleInputs s) k = isHalt s k := rfl
@[simp] theorem sampleInputs_serviceAt (k : Nat) : serviceAt (sampleInputs s) k = serviceAt s k := rfl
@[simp] theorem sampleInputs_busRead (k : Nat) (addr : Addr) : busRead (sampleInputs s) k addr = busRead s k addr := rfl
@[simp] theorem sampleInputs_readByte (k : Addr) : readByte (sampleInputs s) k = readByte s k := rfl

@[simp] theorem startRun_a (u v : Nat) (p q : List Bool) : (startRun u v p q s).a = s.a := rfl
@[simp] theorem startRun_x (u v : Nat) (p q : List Bool) : (startRun u v p q s).x = s.x := rfl
@[simp] theorem startRun_y (u v : Nat) (p q : List Bool) : (startRun u v p q s).y = s.y := rfl
@[simp] theorem startRun_sp (u v : Nat) (p q : List Bool) : (startRun u v p q s).sp = s.sp := rfl
@[simp] theorem startRun_pc (u v : Nat) (p q : List Bool) : (startRun u v p q s).pc = s.pc := rfl
@[simp] theorem startRun_flags (u v : Nat) (p q : List Bool) : (startRun u v p q s).flags = s.flags := rfl
@[simp] theorem startRun_cyc (u v : Nat) (p q : List Bool) : (startRun u v p q s).cyc = v := rfl
@[simp] theorem startRun_run (u v : Nat) (p q : List Bool) : (startRun u v p q s).run = .running := rfl
@[simp] theorem startRun_nmiPending (u v : Nat) (p q : List Bool) : (startRun u v p q s).nmiPending = s.nmiPending := rfl
@[simp] theorem startRun_mem (u v : Nat) (p q : List Bool) : (startRun u v p q s).mem = s.mem := rfl
@[simp] theorem startRun_bus (u v : Nat) (p q : List Bool) : (startRun u v p q s).bus = s.bus := rfl
@[simp] theorem startRun_haltAddrs (u v : Nat) (p q : List Bool) : (startRun u v p q s).haltAddrs = s.haltAddrs := rfl
@[simp] theorem startRun_budget (u v : Nat) (p q : List Bool) : (startRun u v p q s).budget = u := rfl
@[simp] theorem startRun_irqLine (u v : Nat) (p q : List Bool) : (startRun u v p q s).irqLine = p := rfl
@[simp] theorem startRun_nmiEdge (u v : Nat) (p q : List Bool) : (startRun u v p q s).nmiEdge = q := rfl
@[simp] theorem startRun_calls (u v : Nat) (p q : List Bool) : (startRun u v p q s).calls = s.calls := rfl
@[simp] theorem startRun_reply (u v : Nat) (p q : List Bool) : (startRun u v p q s).reply = none := rfl
@[simp] theorem startRun_busLog (u v : Nat) (p q : List Bool) : (startRun u v p q s).busLog = s.busLog := rfl
@[simp] theorem startRun_isHalt (u v : Nat) (p q : List Bool) (k : Addr) : isHalt (startRun u v p q s) k = isHalt s k := rfl
@[simp] theorem startRun_serviceAt (u v : Nat) (p q : List Bool) (k : Nat) : serviceAt (startRun u v p q s) k = serviceAt s k := rfl
@[simp] theorem startRun_busRead (u v : Nat) (p q : List Bool) (k : Nat) (addr : Addr) : busRead (startRun u v p q s) k addr = busRead s k addr := rfl
@[simp] theorem startRun_readByte (u v : Nat) (p q : List Bool) (k : Addr) : readByte (startRun u v p q s) k = readByte s k := rfl

@[simp] theorem loadA_a (m : Byte) : (loadA m s).a = m := rfl
@[simp] theorem loadA_x (m : Byte) : (loadA m s).x = s.x := rfl
@[simp] theorem loadA_y (m : Byte) : (loadA m s).y = s.y := rfl
@[simp] theorem loadA_sp (m : Byte) : (loadA m s).sp = s.sp := rfl
@[simp] theorem loadA_pc (m : Byte) : (loadA m s).pc = s.pc := rfl
@[simp] theorem loadA_flags (m : Byte) : (loadA m s).flags = setZN m s.flags := rfl
@[simp] theorem loadA_cyc (m : Byte) : (loadA m s).cyc = s.cyc := rfl
@[simp] theorem loadA_run (m : Byte) : (loadA m s).run = s.run := rfl
@[simp] theorem loadA_nmiPending (m : Byte) : (loadA m s).nmiPending = s.nmiPending := rfl
@[simp] theorem loadA_mem (m : Byte) : (loadA m s).mem = s.mem := rfl
@[simp] theorem loadA_bus (m : Byte) : (loadA m s).bus = s.bus := rfl
@[simp] theorem loadA_haltAddrs (m : Byte) : (loadA m s).haltAddrs = s.haltAddrs := rfl
@[simp] theorem loadA_budget (m : Byte) : (loadA m s).budget = s.budget := rfl
@[simp] theorem loadA_irqLine (m : Byte) : (loadA m s).irqLine = s.irqLine := rfl
@[simp] theorem loadA_nmiEdge (m : Byte) : (loadA m s).nmiEdge = s.nmiEdge := rfl
@[simp] theorem loadA_calls (m : Byte) : (loadA m s).calls = s.calls := rfl
@[simp] theorem loadA_reply (m : Byte) : (loadA m s).reply = s.reply := rfl
@[simp] theorem loadA_busLog (m : Byte) : (loadA m s).busLog = s.busLog := rfl
@[simp] theorem loadA_isHalt (m : Byte) (k : Addr) : isHalt (loadA m s) k = isHalt s k := rfl
@[simp] theorem loadA_serviceAt (m : Byte) (k : Nat) : serviceAt (loadA m s) k = serviceAt s k := rfl
@[simp] theorem loadA_busRead (m : Byte) (k : Nat) (addr : Addr) : busRead (loadA m s) k addr = busRead s k addr := rfl
@[simp] theorem loadA_readByte (m : Byte) (k : Addr) : readByte (loadA m s) k = readByte s k := rfl

@[simp] theorem loadX_a (m : Byte) : (loadX m s).a = s.a := rfl
@[simp] theorem loadX_x (m : Byte) : (loadX m s).x = m := rfl
@[simp] theorem loadX_y (m : Byte) : (loadX m s).y = s.y := rfl
@[simp] theorem loadX_sp (m : Byte) : (loadX m s).sp = s.sp := rfl
@[simp] theorem loadX_pc (m : Byte) : (loadX m s).pc = s.pc := rfl
@[simp] theorem loadX_flags (m : Byte) : (loadX m s).flags = setZN m s.flags := rfl
@[simp] theorem loadX_cyc (m : Byte) : (loadX m s).cyc = s.cyc := rfl
@[simp] theorem loadX_run (m : Byte) : (loadX m s).run = s.run := rfl
@[simp] theorem loadX_nmiPending (m : Byte) : (loadX m s).nmiPending = s.nmiPending := rfl
@[simp] theorem loadX_mem (m : Byte) : (loadX m s).mem = s.mem := rfl
@[simp] theorem loadX_bus (m : Byte) : (loadX m s).bus = s.bus := rfl
@[simp] theorem loadX_haltAddrs (m : Byte) : (loadX m s).haltAddrs = s.haltAddrs := rfl
@[simp] theorem loadX_budget (m : Byte) : (loadX m s).budget = s.budget := rfl
@[simp] theorem loadX_irqLine (m : Byte) : (loadX m s).irqLine = s.irqLine := rfl
@[simp] theorem loadX_nmiEdge (m : Byte) : (loadX m s).nmiEdge = s.nmiEdge := rfl
@[simp] theorem loadX_calls (m : Byte) : (loadX m s).calls = s.calls := rfl
@[simp] theorem loadX_reply (m : Byte) : (loadX m s).reply = s.reply := rfl
@[simp] theorem loadX_busLog (m : Byte) : (loadX m s).busLog = s.busLog := rfl
@[simp] theorem loadX_isHalt (m : Byte) (k : Addr) : isHalt (loadX m s) k = isHalt s k := rfl
@[simp] theorem loadX_serviceAt (m : Byte) (k : Nat) : serviceAt (loadX m s) k = serviceAt s k := rfl
@[simp] theorem loadX_busRead (m : Byte) (k : Nat) (addr : Addr) : busRead (loadX m s) k addr = busRead s k addr := rfl
@[simp] theorem loadX_readByte (m : Byte) (k : Addr) : readByte (loadX m s) k = readByte s k := rfl

@[simp] theorem loadY_a (m : Byte) : (loadY m s).a = s.a := rfl
@[simp] theorem loadY_x (m : Byte) : (loadY m s).x = s.x := rfl
@[simp] theorem loadY_y (m : Byte) : (loadY m s).y = m := rfl
@[simp] theorem loadY_sp (m : Byte) : (loadY m s).sp = s.sp := rfl
@[simp] theorem loadY_pc (m : Byte) : (loadY m s).pc = s.pc := rfl
@[simp] theorem loadY_flags (m : Byte) : (loadY m s).flags = setZN m s.flags := rfl
@[simp] theorem loadY_cyc (m : Byte) : (loadY m s).cyc = s.cyc := rfl
@[simp] theorem loadY_run (m : Byte) : (loadY m s).run = s.run := rfl
@[simp] theorem loadY_nmiPending (m : Byte) : (loadY m s).nmiPending = s.nmiPending := rfl
@[simp] theorem loadY_mem (m : Byte) : (loadY m s).mem = s.mem := rfl
@[simp] theorem loadY_bus (m : Byte) : (loadY m s).bus = s.bus := rfl
@[simp] theorem loadY_haltAddrs (m : Byte) : (loadY m s).haltAddrs = s.haltAddrs := rfl
@[simp] theorem loadY_budget (m : Byte) : (loadY m s).budget = s.budget := rfl
@[simp] theorem loadY_irqLine (m : Byte) : (loadY m s).irqLine = s.irqLine := rfl
@[simp] theorem loadY_nmiEdge (m : Byte) : (loadY m s).nmiEdge = s.nmiEdge := rfl
@[simp] theorem loadY_calls (m : Byte) : (loadY m s).calls = s.calls := rfl
@[simp] theorem loadY_reply (m : Byte) : (loadY m s).reply = s.reply := rfl
@[simp] theorem loadY_busLog (m : Byte) : (loadY m s).busLog = s.busLog := rfl
@[simp] theorem loadY_isHalt (m : Byte) (k : Addr) : isHalt (loadY m s) k = isHalt s k := rfl
@[simp] theorem loadY_serviceAt (m : Byte) (k : Nat) : serviceAt (loadY m s) k = serviceAt s k := rfl
@[simp] theorem loadY_busRead (m : Byte) (k : Nat) (addr : Addr) : busRead (loadY m s) k addr = busRead s k addr := rfl
@[simp] theorem loadY_readByte (m : Byte) (k : Addr) : readByte (loadY m s) k = readByte s k := rfl

@[simp] theorem setZN_c (v : Byte) (f : Flags) : (setZN v f).c = f.c := rfl
@[simp] theorem setZN_z (v : Byte) (f : Flags) : (setZN v f).z = (v == 0#8) := rfl
@[simp] theorem setZN_i (v : Byte) (f : Flags) : (setZN v f).i = f.i := rfl
@[simp] theorem setZN_d (v : Byte) (f : Flags) : (setZN v f).d = f.d := rfl
@[simp] theorem setZN_b (v : Byte) (f : Flags) : (setZN v f).b = f.b := rfl
@[simp] theorem setZN_v (v : Byte) (f : Flags) : (setZN v f).v = f.v := rfl
@[simp] theorem setZN_n (v : Byte) (f : Flags) : (setZN v f).n = v.getLsbD 7 := rfl

@[simp] theorem unpack_n (p : Byte) : (unpack p).n = p.getLsbD 7 := rfl
@[simp] theorem unpack_v (p : Byte) : (unpack p).v = p.getLsbD 6 := rfl
@[simp] theorem unpack_b (p : Byte) : (unpack p).b = p.getLsbD 4 := rfl
@[simp] theorem unpack_d (p : Byte) : (unpack p).d = p.getLsbD 3 := rfl
@[simp] theorem unpack_i (p : Byte) : (unpack p).i = p.getLsbD 2 := rfl
@[simp] theorem unpack_z (p : Byte) : (unpack p).z = p.getLsbD 1 := rfl
@[simp] theorem unpack_c (p : Byte) : (unpack p).c = p.getLsbD 0 := rfl

@[simp] theorem withSum_c (o : AluSum) (f : Flags) : (withSum o f).c = o.c := rfl
@[simp] theorem withSum_z (o : AluSum) (f : Flags) : (withSum o f).z = o.z := rfl
@[simp] theorem withSum_i (o : AluSum) (f : Flags) : (withSum o f).i = f.i := rfl
@[simp] theorem withSum_d (o : AluSum) (f : Flags) : (withSum o f).d = f.d := rfl
@[simp] theorem withSum_b (o : AluSum) (f : Flags) : (withSum o f).b = f.b := rfl
@[simp] theorem withSum_v (o : AluSum) (f : Flags) : (withSum o f).v = o.v := rfl
@[simp] theorem withSum_n (o : AluSum) (f : Flags) : (withSum o f).n = o.n := rfl

end Sys2Proof.Machine
end

