-- ==== Sys2Proof/Laws/Memory.lean ====
section
/-! SUPPORT. The laws of the RAM: read after write on every list, and the canonical form kept by every memory operation. -/

namespace Sys2Proof.Machine

@[simp] theorem Memory.read_nil (a : Nat) : Memory.read [] a = Config.memFill := rfl

theorem Memory.read_cons (k : Nat) (v : Byte) (m : Memory) (a : Nat) :
    Memory.read ((k, v) :: m) a = if k = a then v else Memory.read m a := rfl

theorem Memory.read_erase (m : Memory) (a b : Nat) :
    Memory.read (Memory.erase m a) b = if b = a then Config.memFill else Memory.read m b := by
  induction m with
  | nil => simp [Memory.erase]
  | cons p m ih =>
    obtain ⟨k, v⟩ := p
    simp only [Memory.erase]
    split
    · rename_i h
      rw [ih, Memory.read_cons]
      split
      · rfl
      · rw [if_neg]; omega
    · rw [Memory.read_cons, Memory.read_cons, ih]
      split
      · rw [if_neg]; omega
      · rfl

/-- `m` has no entry for `a`. -/
abbrev Memory.Lacks (m : Memory) (a : Nat) : Prop := ∀ p ∈ m, p.1 ≠ a

theorem Memory.erase_lacks (m : Memory) (a : Nat) : Memory.Lacks (Memory.erase m a) a := by
  induction m with
  | nil => simp [Memory.erase, Memory.Lacks]
  | cons p m ih =>
    obtain ⟨k, v⟩ := p
    simp only [Memory.erase]
    split
    · exact ih
    · intro q hq
      rcases List.mem_cons.mp hq with rfl | hq
      · assumption
      · exact ih q hq

theorem Memory.read_insert (m : Memory) (a : Nat) (v : Byte) (b : Nat) (h : Memory.Lacks m a) :
    Memory.read (Memory.insert m a v) b = if b = a then v else Memory.read m b := by
  induction m with
  | nil =>
    rw [Memory.insert, Memory.read_cons]
    simp only [eq_comm]
  | cons p m ih =>
    obtain ⟨k, w⟩ := p
    have hk : k ≠ a := h (k, w) (List.mem_cons_self ..)
    simp only [Memory.insert]
    split
    · rw [Memory.read_cons]
      simp only [eq_comm]
    · rw [Memory.read_cons, Memory.read_cons, ih fun q hq => h q (List.mem_cons_of_mem _ hq)]
      split
      · rw [if_neg]; omega
      · rfl

/-- The one law of a write: the written address reads the new byte, every other address reads as before (R64, R69). -/
theorem Memory.read_write (m : Memory) (a : Nat) (v : Byte) (b : Nat) :
    Memory.read (Memory.write m a v) b = if b = a then v else Memory.read m b := by
  unfold Memory.write
  split
  · rename_i h
    rw [Memory.read_erase, h]
  · rw [Memory.read_insert _ _ _ _ (Memory.erase_lacks m a), Memory.read_erase]
    split <;> rfl

/-- After a bus write MEM holds at its address what `storedByte` says, and every other byte as before (R52, R69). -/
theorem readByte_memWrite (s : State) (a b : Addr) (v : Byte) :
    readByte (memWrite a v s) b = if b = a then storedByte s 0 a v else readByte s b := by
  unfold readByte storedByte
  rw [memWrite_mem, busWrite]
  cases serviceAt s 0 with
  | ram => simp only [Memory.read_write, BitVec.toNat_inj]
  | caller w =>
    simp only [readByte]
    split
    · rename_i h
      rw [h]
    · rfl

/-- With the default bus in its plainest form, every call is the RAM's (R69). -/
theorem serviceAt_of_ramBus {s : State} (h : RamBus s) (k : Nat) : serviceAt s k = .ram := by
  rw [serviceAt, List.getD_eq_getElem?_getD]
  cases e : s.bus[k]? with
  | none => rfl
  | some b => exact h b (List.mem_of_getElem? e)

/-- The services past `n` calls are those of `s`, counted on. -/
theorem serviceAt_of_drop {s t : State} {n : Nat} (hb : t.bus = s.bus.drop n) (k : Nat) :
    serviceAt t k = serviceAt s (n + k) := by
  simp [serviceAt, hb, List.getD_eq_getElem?_getD]

/-- `BUS_READ` past `n` calls that left MEM as it was at `a`. -/
theorem busRead_of_drop {s t : State} {n : Nat} {a : Addr} (hb : t.bus = s.bus.drop n)
    (hm : readByte t a = readByte s a) (k : Nat) : busRead t k a = busRead s (n + k) a := by
  rw [busRead, busRead, serviceAt_of_drop hb, hm]

/-- A bus write past `n` calls that left MEM as it was at `a`. -/
theorem storedByte_of_drop {s t : State} {n : Nat} {a : Addr} (hb : t.bus = s.bus.drop n)
    (hm : readByte t a = readByte s a) (k : Nat) (v : Byte) : storedByte t k a v = storedByte s (n + k) a v := by
  rw [storedByte, storedByte, serviceAt_of_drop hb, hm]

/-- A bus of the caller's own is its answers, call by call: what any `BUS_READ` answers along a run is some such list (R7). -/
theorem busRead_of_answers {s : State} {answers : List Byte} (h : s.bus = answers.map BusService.caller) (k : Nat)
    (hk : k < answers.length) (a : Addr) : busRead s k a = answers[k] := by
  simp [busRead, serviceAt, h, hk]

/-- Push writes MEM at `0x0100 + SP` alone (R60). -/
theorem readByte_push (v : Byte) (s : State) (b : Addr) :
    readByte (push v s) b = if b = stackAddr s.sp then storedByte s 0 (stackAddr s.sp) v else readByte s b :=
  readByte_memWrite s (stackAddr s.sp) b v

theorem Memory.wfAbove_cons (low : Option Nat) (k : Nat) (v : Byte) (m : Memory) :
    Memory.wfAbove low ((k, v) :: m) = true ↔
      (∀ l, low = some l → l < k) ∧ k < 65536 ∧ v ≠ Config.memFill ∧ Memory.wfAbove (some k) m = true := by
  cases low <;> simp [Memory.wfAbove, and_assoc]

theorem Memory.wfAbove_mono (m : Memory) (l : Nat) (low : Option Nat) (hl : ∀ j, low = some j → j < l)
    (h : Memory.wfAbove (some l) m = true) : Memory.wfAbove low m = true := by
  cases m with
  | nil => rfl
  | cons p m =>
    obtain ⟨k, v⟩ := p
    rw [Memory.wfAbove_cons] at h ⊢
    exact ⟨fun j hj => Nat.lt_trans (hl j hj) (h.1 l rfl), h.2⟩

theorem Memory.wfAbove_erase (m : Memory) (low : Option Nat) (a : Nat) (h : Memory.wfAbove low m = true) :
    Memory.wfAbove low (Memory.erase m a) = true := by
  induction m generalizing low with
  | nil => rfl
  | cons p m ih =>
    obtain ⟨k, v⟩ := p
    rw [Memory.wfAbove_cons] at h
    simp only [Memory.erase]
    split
    · exact Memory.wfAbove_mono _ k low h.1 (ih _ h.2.2.2)
    · rw [Memory.wfAbove_cons]
      exact ⟨h.1, h.2.1, h.2.2.1, ih _ h.2.2.2⟩

theorem Memory.wfAbove_insert (m : Memory) (low : Option Nat) (a : Nat) (v : Byte) (hm : Memory.wfAbove low m = true)
    (hl : ∀ l, low = some l → l < a) (ha : a < 65536) (hv : v ≠ Config.memFill) (hn : Memory.Lacks m a) :
    Memory.wfAbove low (Memory.insert m a v) = true := by
  induction m generalizing low with
  | nil => exact (Memory.wfAbove_cons ..).mpr ⟨hl, ha, hv, rfl⟩
  | cons p m ih =>
    obtain ⟨k, w⟩ := p
    have hk : k ≠ a := hn (k, w) (List.mem_cons_self ..)
    rw [Memory.wfAbove_cons] at hm
    simp only [Memory.insert]
    split
    · rename_i hak
      rw [Memory.wfAbove_cons, Memory.wfAbove_cons]
      refine ⟨hl, ha, hv, fun l h => ?_, hm.2⟩
      cases h
      exact hak
    · rw [Memory.wfAbove_cons]
      refine ⟨hm.1, hm.2.1, hm.2.2.1, ih _ hm.2.2.2 (fun l h => ?_) fun q hq => hn q (List.mem_cons_of_mem _ hq)⟩
      cases h
      omega

/-- A write keeps the canonical form. -/
theorem Memory.wf_write (m : Memory) (a : Nat) (v : Byte) (h : Memory.wf m = true) (ha : a < 65536) :
    Memory.wf (Memory.write m a v) = true := by
  unfold Memory.wf Memory.write at *
  split
  · exact Memory.wfAbove_erase _ _ _ h
  · exact Memory.wfAbove_insert _ _ _ _ (Memory.wfAbove_erase _ _ _ h) (fun _ h => by cases h) ha ‹_›
      (Memory.erase_lacks m a)

theorem memWrite_wf (a : Addr) (v : Byte) (s : State) (h : Memory.wf s.mem = true) :
    Memory.wf (memWrite a v s).mem = true := by
  rw [memWrite_mem, busWrite]
  cases serviceAt s 0 with
  | ram => exact Memory.wf_write _ _ _ h a.isLt
  | caller w => exact h

theorem push_wf (v : Byte) (s : State) (h : Memory.wf s.mem = true) : Memory.wf (push v s).mem = true :=
  memWrite_wf (stackAddr s.sp) v s h

theorem reset_wf : Memory.wf State.reset.mem = true := rfl

end Sys2Proof.Machine
end

