-- ==== Sys2Proof/Laws/Ops.lean ====
section
/-! SUPPORT. One lemma per shared operation that says everything it can do; proofs cite these instead of unfolding. -/

namespace Sys2Proof.Machine

/-- `s` after the bus reads `reads`, in order, each answered, and nothing else. -/
def withReads (s : State) (reads : List Addr) : State :=
  { s with bus := s.bus.drop reads.length, busLog := s.busLog ++ reads.map BusCall.read }

@[simp] theorem withReads_a (s : State) (p : List Addr) : (withReads s p).a = s.a := rfl
@[simp] theorem withReads_x (s : State) (p : List Addr) : (withReads s p).x = s.x := rfl
@[simp] theorem withReads_y (s : State) (p : List Addr) : (withReads s p).y = s.y := rfl
@[simp] theorem withReads_sp (s : State) (p : List Addr) : (withReads s p).sp = s.sp := rfl
@[simp] theorem withReads_pc (s : State) (p : List Addr) : (withReads s p).pc = s.pc := rfl
@[simp] theorem withReads_flags (s : State) (p : List Addr) : (withReads s p).flags = s.flags := rfl
@[simp] theorem withReads_cyc (s : State) (p : List Addr) : (withReads s p).cyc = s.cyc := rfl
@[simp] theorem withReads_run (s : State) (p : List Addr) : (withReads s p).run = s.run := rfl
@[simp] theorem withReads_nmiPending (s : State) (p : List Addr) : (withReads s p).nmiPending = s.nmiPending := rfl
@[simp] theorem withReads_mem (s : State) (p : List Addr) : (withReads s p).mem = s.mem := rfl
@[simp] theorem withReads_haltAddrs (s : State) (p : List Addr) : (withReads s p).haltAddrs = s.haltAddrs := rfl
@[simp] theorem withReads_budget (s : State) (p : List Addr) : (withReads s p).budget = s.budget := rfl
@[simp] theorem withReads_irqLine (s : State) (p : List Addr) : (withReads s p).irqLine = s.irqLine := rfl
@[simp] theorem withReads_nmiEdge (s : State) (p : List Addr) : (withReads s p).nmiEdge = s.nmiEdge := rfl
@[simp] theorem withReads_calls (s : State) (p : List Addr) : (withReads s p).calls = s.calls := rfl
@[simp] theorem withReads_reply (s : State) (p : List Addr) : (withReads s p).reply = s.reply := rfl
@[simp] theorem withReads_busLog (s : State) (p : List Addr) :
    (withReads s p).busLog = s.busLog ++ p.map BusCall.read := rfl

@[simp] theorem withReads_nil (s : State) : withReads s [] = s := by simp [withReads]

@[simp] theorem withReads_bus (s : State) (p : List Addr) : (withReads s p).bus = s.bus.drop p.length := rfl

@[simp] theorem withReads_withReads (s : State) (p q : List Addr) :
    withReads (withReads s p) q = withReads s (p ++ q) := by simp [withReads]

theorem served_read (s : State) (a : Addr) : served (.read a) s = withReads s [a] := by
  simp [served, withReads, logCall]

@[simp] theorem withReads_isHalt (s : State) (p : List Addr) (a : Addr) : isHalt (withReads s p) a = isHalt s a := rfl

@[simp] theorem withReads_readByte (s : State) (p : List Addr) (a : Addr) :
    readByte (withReads s p) a = readByte s a := rfl

@[simp] theorem withReads_serviceAt (s : State) (p : List Addr) (k : Nat) :
    serviceAt (withReads s p) k = serviceAt s (p.length + k) := by
  simp [serviceAt, List.getD_eq_getElem?_getD]

@[simp] theorem withReads_busRead (s : State) (p : List Addr) (k : Nat) (a : Addr) :
    busRead (withReads s p) k a = busRead s (p.length + k) a := by
  simp only [busRead, withReads_serviceAt, withReads_readByte]

@[simp] theorem andThen_done {α β : Type} (v : α) (s : State) (f : α → State → Access β) :
    (Access.done v s).andThen f = f v s := rfl

@[simp] theorem andThen_halt {α β : Type} (s : State) (f : α → State → Access β) :
    (Access.halt s : Access α).andThen f = .halt s := rfl

@[simp] theorem settle_done (n : Nat) (s : State) : settle (.done n s) = { s with cyc := s.cyc + n } := rfl

@[simp] theorem settle_halt (s : State) : settle (.halt s) = stopRun .halted s := rfl

theorem memRead_done {s : State} {a : Addr} (h : isHalt s a = false) :
    memRead a s = .done (busRead s 0 a) (withReads s [a]) := by simp [memRead, h, served_read]

theorem memRead_halt {s : State} {a : Addr} (h : isHalt s a = true) : memRead a s = .halt (logCall (.read a) s) := by
  simp [memRead, h]

theorem memRead_cases (a : Addr) (s : State) :
    (isHalt s a = false ∧ memRead a s = .done (busRead s 0 a) (withReads s [a])) ∨
    (isHalt s a = true ∧ memRead a s = .halt (logCall (.read a) s)) := by
  cases h : isHalt s a
  · exact .inl ⟨rfl, memRead_done h⟩
  · exact .inr ⟨rfl, memRead_halt h⟩

theorem fetchByte_done {s : State} (h : isHalt s s.pc = false) :
    fetchByte s = .done (busRead s 0 s.pc) { withReads s [s.pc] with pc := s.pc + 1#16 } := by
  simp [fetchByte, memRead_done h, withReads]

theorem fetchByte_halt {s : State} (h : isHalt s s.pc = true) : fetchByte s = .halt (logCall (.read s.pc) s) := by
  simp [fetchByte, memRead_halt h]

theorem pull_done {s : State} (h : isHalt s (stackAddr (s.sp + 1#8)) = false) :
    pull s = .done (busRead s 0 (stackAddr (s.sp + 1#8)))
      { withReads s [stackAddr (s.sp + 1#8)] with sp := s.sp + 1#8 } := by
  have h' : isHalt { s with sp := s.sp + 1#8 } (stackAddr (s.sp + 1#8)) = false := h
  exact memRead_done h'

theorem pull_halt {s : State} (h : isHalt s (stackAddr (s.sp + 1#8)) = true) :
    pull s = .halt { logCall (.read (stackAddr (s.sp + 1#8))) s with sp := s.sp + 1#8 } := by
  have h' : isHalt { s with sp := s.sp + 1#8 } (stackAddr (s.sp + 1#8)) = true := h
  exact memRead_halt h'

theorem pull_cases (s : State) :
    (isHalt s (stackAddr (s.sp + 1#8)) = false ∧ pull s = .done (busRead s 0 (stackAddr (s.sp + 1#8)))
      { withReads s [stackAddr (s.sp + 1#8)] with sp := s.sp + 1#8 }) ∨
    (isHalt s (stackAddr (s.sp + 1#8)) = true ∧
      pull s = .halt { logCall (.read (stackAddr (s.sp + 1#8))) s with sp := s.sp + 1#8 }) := by
  cases h : isHalt s (stackAddr (s.sp + 1#8))
  · exact .inl ⟨rfl, pull_done h⟩
  · exact .inr ⟨rfl, pull_halt h⟩

/-- Two reads, `p` then `q`, ended by the first halting one. -/
theorem two_reads {α : Type} (p q : Addr) (f : Byte → Byte → State → α) (s : State) :
    (isHalt s p = false ∧ isHalt s q = false ∧
      ((memRead p s).andThen fun l t => (memRead q t).andThen fun h u => Access.done (f l h u) u) =
        .done (f (busRead s 0 p) (busRead s 1 q) (withReads s [p, q])) (withReads s [p, q])) ∨
    (isHalt s p = true ∧ ((memRead p s).andThen fun l t => (memRead q t).andThen fun h u => Access.done (f l h u) u) =
        .halt (logCall (.read p) s)) ∨
    (isHalt s p = false ∧ isHalt s q = true ∧
      ((memRead p s).andThen fun l t => (memRead q t).andThen fun h u => Access.done (f l h u) u) =
        .halt (logCall (.read q) (withReads s [p]))) := by
  rcases memRead_cases p s with ⟨h, e⟩ | ⟨h, e⟩
  · rcases memRead_cases q (withReads s [p]) with ⟨h', e'⟩ | ⟨h', e'⟩
    · exact .inl ⟨h, h', by simp [e, e']⟩
    · exact .inr (.inr ⟨h, h', by simp [e, e']⟩)
  · exact .inr (.inl ⟨h, by simp [e]⟩)

/-- `Read16` reads two bytes, low first, and stops at the first halting one. -/
theorem read16_cases (a : Addr) (s : State) :
    (isHalt s a = false ∧ isHalt s (a + 1#16) = false ∧
      read16 a s = .done (a16 (busRead s 0 a) (busRead s 1 (a + 1#16))) (withReads s [a, a + 1#16])) ∨
    (isHalt s a = true ∧ read16 a s = .halt (logCall (.read a) s)) ∨
    (isHalt s a = false ∧ isHalt s (a + 1#16) = true ∧
      read16 a s = .halt (logCall (.read (a + 1#16)) (withReads s [a]))) :=
  two_reads a (a + 1#16) (fun l h _ => a16 l h) s

/-- The resolver only reads pointer bytes, and stops at the first halting one: whatever it answers, the state differs in the bus
and its log alone (R103). -/
theorem resolve_cases (o : Operand) (s : State) :
    (∃ r reads, resolve o s = .done r (withReads s reads)) ∨
    ∃ reads a, isHalt s a = true ∧ resolve o s = .halt (logCall (.read a) (withReads s reads)) := by
  have plain (r : Resolved) : (∃ r' reads, Access.done r s = .done r' (withReads s reads)) ∨
      ∃ reads a, isHalt s a = true ∧ Access.done r s = .halt (logCall (.read a) (withReads s reads)) :=
    .inl ⟨r, [], by simp⟩
  have pointer (p q : Addr) (f : Byte → Byte → State → Resolved) :
      (∃ r reads, ((memRead p s).andThen fun l t => (memRead q t).andThen fun h u => Access.done (f l h u) u) =
        .done r (withReads s reads)) ∨
      ∃ reads a, isHalt s a = true ∧
        ((memRead p s).andThen fun l t => (memRead q t).andThen fun h u => Access.done (f l h u) u) =
          .halt (logCall (.read a) (withReads s reads)) := by
    rcases two_reads p q f s with ⟨_, _, e⟩ | ⟨h, e⟩ | ⟨_, h, e⟩
    · exact .inl ⟨_, _, e⟩
    · exact .inr ⟨[], p, h, by rw [e, withReads_nil]⟩
    · exact .inr ⟨[p], q, h, e⟩
  cases o with
  | zp b => exact plain _
  | zpX b => exact plain _
  | zpY b => exact plain _
  | abs w => exact plain _
  | absX w => exact plain _
  | absY w => exact plain _
  | rel off => exact plain _
  | ind w => exact pointer w _ fun l h _ => ⟨a16 l h, false⟩
  | indX b => exact pointer _ _ fun l h _ => ⟨a16 l h, false⟩
  | indY b => exact pointer (zext16 b) (zext16 (b + 1#8)) fun l h u => indexed (a16 l h) u.y

theorem resolve_done_eq {o : Operand} {s t : State} {r : Resolved} (h : resolve o s = .done r t) :
    ∃ reads, t = withReads s reads := by
  rcases resolve_cases o s with ⟨r', reads, e⟩ | ⟨reads, a, _, e⟩
  · rw [e] at h
    cases h
    exact ⟨reads, rfl⟩
  · rw [e] at h
    cases h

theorem resolve_halt_eq {o : Operand} {s t : State} (h : resolve o s = .halt t) :
    ∃ reads a, isHalt s a = true ∧ t = logCall (.read a) (withReads s reads) := by
  rcases resolve_cases o s with ⟨r', reads, e⟩ | ⟨reads, a, ha, e⟩
  · rw [e] at h
    cases h
  · rw [e] at h
    cases h
    exact ⟨reads, a, ha, rfl⟩

/-- The state in which `enter` reads its vector: three pushes and I = 1 (R284). -/
def entered (b4 : Bool) (s : State) : State :=
  { push (pack s.flags b4 true) (push (lo s.pc) (push (hi s.pc) s)) with flags := { s.flags with i := true } }

theorem entered_isHalt (b4 : Bool) (s : State) (a : Addr) : isHalt (entered b4 s) a = isHalt s a := by
  simp [isHalt, entered]

/-- Everything an interrupt entry can do (R284). -/
theorem enter_cases (vector : Addr) (b4 : Bool) (s : State) :
    (isHalt s vector = false ∧ isHalt s (vector + 1#16) = false ∧ enter vector b4 s = .done ()
      { withReads (entered b4 s) [vector, vector + 1#16] with
        pc := a16 (busRead (entered b4 s) 0 vector) (busRead (entered b4 s) 1 (vector + 1#16)) }) ∨
    (isHalt s vector = true ∧ enter vector b4 s = .halt (logCall (.read vector) (entered b4 s))) ∨
    (isHalt s vector = false ∧ isHalt s (vector + 1#16) = true ∧
      enter vector b4 s = .halt (logCall (.read (vector + 1#16)) (withReads (entered b4 s) [vector]))) := by
  have e : enter vector b4 s =
      (read16 vector (entered b4 s)).andThen fun target t => .done () { t with pc := target } := by
    simp only [enter, entered, push_flags, push_pc]
  have h := read16_cases vector (entered b4 s)
  simp only [entered_isHalt] at h
  rcases h with ⟨h, h', e'⟩ | ⟨h, e'⟩ | ⟨h, h', e'⟩
  · exact .inl ⟨h, h', by rw [e, e', andThen_done]⟩
  · exact .inr (.inl ⟨h, by rw [e, e', andThen_halt]⟩)
  · exact .inr (.inr ⟨h, h', by rw [e, e', andThen_halt]⟩)

end Sys2Proof.Machine
end

