-- ==== Sys2Proof/Laws/Exec.lean ====
section
/-! SUPPORT. Everything that the shared instruction shapes of Machine/Operands.lean can do, by cases. -/

namespace Sys2Proof.Machine

/-- A read instruction completes with its effect, or halts having only read. -/
theorem readOperand_cases (base : Nat) (x : Extra) (o : Operand) (f : Byte → State → State) (s : State) :
    (∃ r reads, resolve o s = .done r (withReads s reads) ∧ isHalt s r.ea = false ∧
      readOperand base x o f s = complete (.done (cost base x r.crossed false)
        (f (busRead s reads.length r.ea) (withReads s (reads ++ [r.ea]))))) ∨
    ∃ reads a, isHalt s a = true ∧ readOperand base x o f s = .next (stopRun .halted (logCall (.read a) (withReads s reads))) := by
  rcases resolve_cases o s with ⟨r, reads, e⟩ | ⟨reads, a, h, e⟩
  · rcases memRead_cases r.ea (withReads s reads) with ⟨h, e'⟩ | ⟨h, e'⟩
    · exact .inl ⟨r, reads, e, h, by simp [readOperand, e, e']⟩
    · exact .inr ⟨reads, r.ea, h, by simp [readOperand, e, e', complete]⟩
  · exact .inr ⟨reads, a, h, by simp [readOperand, e, complete]⟩

/-- A store completes with one write, or halts having only read pointer bytes. -/
theorem storeOperand_cases (base : Nat) (o : Operand) (v : Byte) (s : State) :
    (∃ r reads, resolve o s = .done r (withReads s reads) ∧
      storeOperand base o v s = complete (.done base (memWrite r.ea v (withReads s reads)))) ∨
    ∃ reads a, isHalt s a = true ∧ storeOperand base o v s = .next (stopRun .halted (logCall (.read a) (withReads s reads))) := by
  rcases resolve_cases o s with ⟨r, reads, e⟩ | ⟨reads, a, h, e⟩
  · exact .inl ⟨r, reads, e, by simp [storeOperand, e, cost]⟩
  · exact .inr ⟨reads, a, h, by simp [storeOperand, e, complete]⟩

/-- A read-modify-write completes with one read and one write at the same address, or halts having only read. -/
theorem modifyOperand_cases (base : Nat) (o : Operand) (f : Byte → Flags → Byte × Flags) (s : State) :
    (∃ r reads, resolve o s = .done r (withReads s reads) ∧ isHalt s r.ea = false ∧
      modifyOperand base o f s = complete (.done base
        { memWrite r.ea (f (busRead s reads.length r.ea) s.flags).1 (withReads s (reads ++ [r.ea])) with
          flags := (f (busRead s reads.length r.ea) s.flags).2 })) ∨
    ∃ reads a, isHalt s a = true ∧ modifyOperand base o f s = .next (stopRun .halted (logCall (.read a) (withReads s reads))) := by
  rcases resolve_cases o s with ⟨r, reads, e⟩ | ⟨reads, a, h, e⟩
  · rcases memRead_cases r.ea (withReads s reads) with ⟨h, e'⟩ | ⟨h, e'⟩
    · refine .inl ⟨r, reads, e, h, ?_⟩
      simp only [modifyOperand, e, andThen_done, e', withReads_withReads, withReads_busRead, Nat.add_zero, cost]
      rfl
    · exact .inr ⟨reads, r.ea, h, by simp [modifyOperand, e, e', complete]⟩
  · exact .inr ⟨reads, a, h, by simp [modifyOperand, e, complete]⟩

/-- A branch always completes: it makes no bus call after its fetch (R220). -/
theorem branchIf_eq (base : Nat) (cond : Bool) (off : Byte) (s : State) :
    branchIf base cond off s = complete (.done (cost base .branch (hi (s.pc + sext16 off) != hi s.pc) cond)
      (if cond then { s with pc := s.pc + sext16 off } else s)) := rfl

/-- A jump completes with PC at its target, or halts having only read pointer bytes. -/
theorem jumpTo_cases (base : Nat) (o : Operand) (s : State) :
    (∃ r reads, resolve o s = .done r (withReads s reads) ∧
      jumpTo base o s = complete (.done base { withReads s reads with pc := r.ea })) ∨
    ∃ reads a, isHalt s a = true ∧ jumpTo base o s = .next (stopRun .halted (logCall (.read a) (withReads s reads))) := by
  rcases resolve_cases o s with ⟨r, reads, e⟩ | ⟨reads, a, h, e⟩
  · exact .inl ⟨r, reads, e, by simp [jumpTo, e, cost]⟩
  · exact .inr ⟨reads, a, h, by simp [jumpTo, e, complete]⟩

end Sys2Proof.Machine
end

