-- ==== Sys2Proof/Laws/PerInstr.lean ====
section
/-! SUPPORT. The family `Encoding`, one lemma per constructor: an instruction's encoding is its opcode followed by as many operand
bytes as its mode has (30_encoding.md R80, R82). -/

namespace Sys2Proof.Laws.Encoding

/-- The encoding has the length of the mode, and its first byte selects that mode. -/
def Statement (i : Instr) : Prop :=
  (encode i).length = i.length ∧ ∃ op rest, encode i = op :: rest ∧ opcodeMode op = some i.mode

theorem ldaImm (v : Byte) : Statement (.ldaImm v) := ⟨rfl, _, _, rfl, rfl⟩
theorem ldaZp (b : Byte) : Statement (.ldaZp b) := ⟨rfl, _, _, rfl, rfl⟩
theorem ldaZpX (b : Byte) : Statement (.ldaZpX b) := ⟨rfl, _, _, rfl, rfl⟩
theorem ldaAbs (w : Addr) : Statement (.ldaAbs w) := ⟨rfl, _, _, rfl, rfl⟩
theorem ldaAbsX (w : Addr) : Statement (.ldaAbsX w) := ⟨rfl, _, _, rfl, rfl⟩
theorem ldaAbsY (w : Addr) : Statement (.ldaAbsY w) := ⟨rfl, _, _, rfl, rfl⟩
theorem ldaIndX (b : Byte) : Statement (.ldaIndX b) := ⟨rfl, _, _, rfl, rfl⟩
theorem ldaIndY (b : Byte) : Statement (.ldaIndY b) := ⟨rfl, _, _, rfl, rfl⟩
theorem ldxImm (v : Byte) : Statement (.ldxImm v) := ⟨rfl, _, _, rfl, rfl⟩
theorem ldxZp (b : Byte) : Statement (.ldxZp b) := ⟨rfl, _, _, rfl, rfl⟩
theorem ldxZpY (b : Byte) : Statement (.ldxZpY b) := ⟨rfl, _, _, rfl, rfl⟩
theorem ldxAbs (w : Addr) : Statement (.ldxAbs w) := ⟨rfl, _, _, rfl, rfl⟩
theorem ldxAbsY (w : Addr) : Statement (.ldxAbsY w) := ⟨rfl, _, _, rfl, rfl⟩
theorem ldyImm (v : Byte) : Statement (.ldyImm v) := ⟨rfl, _, _, rfl, rfl⟩
theorem ldyZp (b : Byte) : Statement (.ldyZp b) := ⟨rfl, _, _, rfl, rfl⟩
theorem ldyZpX (b : Byte) : Statement (.ldyZpX b) := ⟨rfl, _, _, rfl, rfl⟩
theorem ldyAbs (w : Addr) : Statement (.ldyAbs w) := ⟨rfl, _, _, rfl, rfl⟩
theorem ldyAbsX (w : Addr) : Statement (.ldyAbsX w) := ⟨rfl, _, _, rfl, rfl⟩
theorem staZp (b : Byte) : Statement (.staZp b) := ⟨rfl, _, _, rfl, rfl⟩
theorem staZpX (b : Byte) : Statement (.staZpX b) := ⟨rfl, _, _, rfl, rfl⟩
theorem staAbs (w : Addr) : Statement (.staAbs w) := ⟨rfl, _, _, rfl, rfl⟩
theorem staAbsX (w : Addr) : Statement (.staAbsX w) := ⟨rfl, _, _, rfl, rfl⟩
theorem staAbsY (w : Addr) : Statement (.staAbsY w) := ⟨rfl, _, _, rfl, rfl⟩
theorem staIndX (b : Byte) : Statement (.staIndX b) := ⟨rfl, _, _, rfl, rfl⟩
theorem staIndY (b : Byte) : Statement (.staIndY b) := ⟨rfl, _, _, rfl, rfl⟩
theorem stxZp (b : Byte) : Statement (.stxZp b) := ⟨rfl, _, _, rfl, rfl⟩
theorem stxZpY (b : Byte) : Statement (.stxZpY b) := ⟨rfl, _, _, rfl, rfl⟩
theorem stxAbs (w : Addr) : Statement (.stxAbs w) := ⟨rfl, _, _, rfl, rfl⟩
theorem styZp (b : Byte) : Statement (.styZp b) := ⟨rfl, _, _, rfl, rfl⟩
theorem styZpX (b : Byte) : Statement (.styZpX b) := ⟨rfl, _, _, rfl, rfl⟩
theorem styAbs (w : Addr) : Statement (.styAbs w) := ⟨rfl, _, _, rfl, rfl⟩
theorem tax : Statement .tax := ⟨rfl, _, _, rfl, rfl⟩
theorem tay : Statement .tay := ⟨rfl, _, _, rfl, rfl⟩
theorem txa : Statement .txa := ⟨rfl, _, _, rfl, rfl⟩
theorem tya : Statement .tya := ⟨rfl, _, _, rfl, rfl⟩
theorem tsx : Statement .tsx := ⟨rfl, _, _, rfl, rfl⟩
theorem txs : Statement .txs := ⟨rfl, _, _, rfl, rfl⟩
theorem adcImm (v : Byte) : Statement (.adcImm v) := ⟨rfl, _, _, rfl, rfl⟩
theorem adcZp (b : Byte) : Statement (.adcZp b) := ⟨rfl, _, _, rfl, rfl⟩
theorem adcZpX (b : Byte) : Statement (.adcZpX b) := ⟨rfl, _, _, rfl, rfl⟩
theorem adcAbs (w : Addr) : Statement (.adcAbs w) := ⟨rfl, _, _, rfl, rfl⟩
theorem adcAbsX (w : Addr) : Statement (.adcAbsX w) := ⟨rfl, _, _, rfl, rfl⟩
theorem adcAbsY (w : Addr) : Statement (.adcAbsY w) := ⟨rfl, _, _, rfl, rfl⟩
theorem adcIndX (b : Byte) : Statement (.adcIndX b) := ⟨rfl, _, _, rfl, rfl⟩
theorem adcIndY (b : Byte) : Statement (.adcIndY b) := ⟨rfl, _, _, rfl, rfl⟩
theorem sbcImm (v : Byte) : Statement (.sbcImm v) := ⟨rfl, _, _, rfl, rfl⟩
theorem sbcZp (b : Byte) : Statement (.sbcZp b) := ⟨rfl, _, _, rfl, rfl⟩
theorem sbcZpX (b : Byte) : Statement (.sbcZpX b) := ⟨rfl, _, _, rfl, rfl⟩
theorem sbcAbs (w : Addr) : Statement (.sbcAbs w) := ⟨rfl, _, _, rfl, rfl⟩
theorem sbcAbsX (w : Addr) : Statement (.sbcAbsX w) := ⟨rfl, _, _, rfl, rfl⟩
theorem sbcAbsY (w : Addr) : Statement (.sbcAbsY w) := ⟨rfl, _, _, rfl, rfl⟩
theorem sbcIndX (b : Byte) : Statement (.sbcIndX b) := ⟨rfl, _, _, rfl, rfl⟩
theorem sbcIndY (b : Byte) : Statement (.sbcIndY b) := ⟨rfl, _, _, rfl, rfl⟩
theorem andImm (v : Byte) : Statement (.andImm v) := ⟨rfl, _, _, rfl, rfl⟩
theorem andZp (b : Byte) : Statement (.andZp b) := ⟨rfl, _, _, rfl, rfl⟩
theorem andZpX (b : Byte) : Statement (.andZpX b) := ⟨rfl, _, _, rfl, rfl⟩
theorem andAbs (w : Addr) : Statement (.andAbs w) := ⟨rfl, _, _, rfl, rfl⟩
theorem andAbsX (w : Addr) : Statement (.andAbsX w) := ⟨rfl, _, _, rfl, rfl⟩
theorem andAbsY (w : Addr) : Statement (.andAbsY w) := ⟨rfl, _, _, rfl, rfl⟩
theorem andIndX (b : Byte) : Statement (.andIndX b) := ⟨rfl, _, _, rfl, rfl⟩
theorem andIndY (b : Byte) : Statement (.andIndY b) := ⟨rfl, _, _, rfl, rfl⟩
theorem oraImm (v : Byte) : Statement (.oraImm v) := ⟨rfl, _, _, rfl, rfl⟩
theorem oraZp (b : Byte) : Statement (.oraZp b) := ⟨rfl, _, _, rfl, rfl⟩
theorem oraZpX (b : Byte) : Statement (.oraZpX b) := ⟨rfl, _, _, rfl, rfl⟩
theorem oraAbs (w : Addr) : Statement (.oraAbs w) := ⟨rfl, _, _, rfl, rfl⟩
theorem oraAbsX (w : Addr) : Statement (.oraAbsX w) := ⟨rfl, _, _, rfl, rfl⟩
theorem oraAbsY (w : Addr) : Statement (.oraAbsY w) := ⟨rfl, _, _, rfl, rfl⟩
theorem oraIndX (b : Byte) : Statement (.oraIndX b) := ⟨rfl, _, _, rfl, rfl⟩
theorem oraIndY (b : Byte) : Statement (.oraIndY b) := ⟨rfl, _, _, rfl, rfl⟩
theorem eorImm (v : Byte) : Statement (.eorImm v) := ⟨rfl, _, _, rfl, rfl⟩
theorem eorZp (b : Byte) : Statement (.eorZp b) := ⟨rfl, _, _, rfl, rfl⟩
theorem eorZpX (b : Byte) : Statement (.eorZpX b) := ⟨rfl, _, _, rfl, rfl⟩
theorem eorAbs (w : Addr) : Statement (.eorAbs w) := ⟨rfl, _, _, rfl, rfl⟩
theorem eorAbsX (w : Addr) : Statement (.eorAbsX w) := ⟨rfl, _, _, rfl, rfl⟩
theorem eorAbsY (w : Addr) : Statement (.eorAbsY w) := ⟨rfl, _, _, rfl, rfl⟩
theorem eorIndX (b : Byte) : Statement (.eorIndX b) := ⟨rfl, _, _, rfl, rfl⟩
theorem eorIndY (b : Byte) : Statement (.eorIndY b) := ⟨rfl, _, _, rfl, rfl⟩
theorem bitZp (b : Byte) : Statement (.bitZp b) := ⟨rfl, _, _, rfl, rfl⟩
theorem bitAbs (w : Addr) : Statement (.bitAbs w) := ⟨rfl, _, _, rfl, rfl⟩
theorem aslAcc : Statement .aslAcc := ⟨rfl, _, _, rfl, rfl⟩
theorem aslZp (b : Byte) : Statement (.aslZp b) := ⟨rfl, _, _, rfl, rfl⟩
theorem aslZpX (b : Byte) : Statement (.aslZpX b) := ⟨rfl, _, _, rfl, rfl⟩
theorem aslAbs (w : Addr) : Statement (.aslAbs w) := ⟨rfl, _, _, rfl, rfl⟩
theorem aslAbsX (w : Addr) : Statement (.aslAbsX w) := ⟨rfl, _, _, rfl, rfl⟩
theorem lsrAcc : Statement .lsrAcc := ⟨rfl, _, _, rfl, rfl⟩
theorem lsrZp (b : Byte) : Statement (.lsrZp b) := ⟨rfl, _, _, rfl, rfl⟩
theorem lsrZpX (b : Byte) : Statement (.lsrZpX b) := ⟨rfl, _, _, rfl, rfl⟩
theorem lsrAbs (w : Addr) : Statement (.lsrAbs w) := ⟨rfl, _, _, rfl, rfl⟩
theorem lsrAbsX (w : Addr) : Statement (.lsrAbsX w) := ⟨rfl, _, _, rfl, rfl⟩
theorem rolAcc : Statement .rolAcc := ⟨rfl, _, _, rfl, rfl⟩
theorem rolZp (b : Byte) : Statement (.rolZp b) := ⟨rfl, _, _, rfl, rfl⟩
theorem rolZpX (b : Byte) : Statement (.rolZpX b) := ⟨rfl, _, _, rfl, rfl⟩
theorem rolAbs (w : Addr) : Statement (.rolAbs w) := ⟨rfl, _, _, rfl, rfl⟩
theorem rolAbsX (w : Addr) : Statement (.rolAbsX w) := ⟨rfl, _, _, rfl, rfl⟩
theorem rorAcc : Statement .rorAcc := ⟨rfl, _, _, rfl, rfl⟩
theorem rorZp (b : Byte) : Statement (.rorZp b) := ⟨rfl, _, _, rfl, rfl⟩
theorem rorZpX (b : Byte) : Statement (.rorZpX b) := ⟨rfl, _, _, rfl, rfl⟩
theorem rorAbs (w : Addr) : Statement (.rorAbs w) := ⟨rfl, _, _, rfl, rfl⟩
theorem rorAbsX (w : Addr) : Statement (.rorAbsX w) := ⟨rfl, _, _, rfl, rfl⟩
theorem cmpImm (v : Byte) : Statement (.cmpImm v) := ⟨rfl, _, _, rfl, rfl⟩
theorem cmpZp (b : Byte) : Statement (.cmpZp b) := ⟨rfl, _, _, rfl, rfl⟩
theorem cmpZpX (b : Byte) : Statement (.cmpZpX b) := ⟨rfl, _, _, rfl, rfl⟩
theorem cmpAbs (w : Addr) : Statement (.cmpAbs w) := ⟨rfl, _, _, rfl, rfl⟩
theorem cmpAbsX (w : Addr) : Statement (.cmpAbsX w) := ⟨rfl, _, _, rfl, rfl⟩
theorem cmpAbsY (w : Addr) : Statement (.cmpAbsY w) := ⟨rfl, _, _, rfl, rfl⟩
theorem cmpIndX (b : Byte) : Statement (.cmpIndX b) := ⟨rfl, _, _, rfl, rfl⟩
theorem cmpIndY (b : Byte) : Statement (.cmpIndY b) := ⟨rfl, _, _, rfl, rfl⟩
theorem cpxImm (v : Byte) : Statement (.cpxImm v) := ⟨rfl, _, _, rfl, rfl⟩
theorem cpxZp (b : Byte) : Statement (.cpxZp b) := ⟨rfl, _, _, rfl, rfl⟩
theorem cpxAbs (w : Addr) : Statement (.cpxAbs w) := ⟨rfl, _, _, rfl, rfl⟩
theorem cpyImm (v : Byte) : Statement (.cpyImm v) := ⟨rfl, _, _, rfl, rfl⟩
theorem cpyZp (b : Byte) : Statement (.cpyZp b) := ⟨rfl, _, _, rfl, rfl⟩
theorem cpyAbs (w : Addr) : Statement (.cpyAbs w) := ⟨rfl, _, _, rfl, rfl⟩
theorem incZp (b : Byte) : Statement (.incZp b) := ⟨rfl, _, _, rfl, rfl⟩
theorem incZpX (b : Byte) : Statement (.incZpX b) := ⟨rfl, _, _, rfl, rfl⟩
theorem incAbs (w : Addr) : Statement (.incAbs w) := ⟨rfl, _, _, rfl, rfl⟩
theorem incAbsX (w : Addr) : Statement (.incAbsX w) := ⟨rfl, _, _, rfl, rfl⟩
theorem decZp (b : Byte) : Statement (.decZp b) := ⟨rfl, _, _, rfl, rfl⟩
theorem decZpX (b : Byte) : Statement (.decZpX b) := ⟨rfl, _, _, rfl, rfl⟩
theorem decAbs (w : Addr) : Statement (.decAbs w) := ⟨rfl, _, _, rfl, rfl⟩
theorem decAbsX (w : Addr) : Statement (.decAbsX w) := ⟨rfl, _, _, rfl, rfl⟩
theorem inx : Statement .inx := ⟨rfl, _, _, rfl, rfl⟩
theorem iny : Statement .iny := ⟨rfl, _, _, rfl, rfl⟩
theorem dex : Statement .dex := ⟨rfl, _, _, rfl, rfl⟩
theorem dey : Statement .dey := ⟨rfl, _, _, rfl, rfl⟩
theorem bcc (off : Byte) : Statement (.bcc off) := ⟨rfl, _, _, rfl, rfl⟩
theorem bcs (off : Byte) : Statement (.bcs off) := ⟨rfl, _, _, rfl, rfl⟩
theorem beq (off : Byte) : Statement (.beq off) := ⟨rfl, _, _, rfl, rfl⟩
theorem bne (off : Byte) : Statement (.bne off) := ⟨rfl, _, _, rfl, rfl⟩
theorem bmi (off : Byte) : Statement (.bmi off) := ⟨rfl, _, _, rfl, rfl⟩
theorem bpl (off : Byte) : Statement (.bpl off) := ⟨rfl, _, _, rfl, rfl⟩
theorem bvc (off : Byte) : Statement (.bvc off) := ⟨rfl, _, _, rfl, rfl⟩
theorem bvs (off : Byte) : Statement (.bvs off) := ⟨rfl, _, _, rfl, rfl⟩
theorem jmpAbs (w : Addr) : Statement (.jmpAbs w) := ⟨rfl, _, _, rfl, rfl⟩
theorem jmpInd (w : Addr) : Statement (.jmpInd w) := ⟨rfl, _, _, rfl, rfl⟩
theorem jsr (w : Addr) : Statement (.jsr w) := ⟨rfl, _, _, rfl, rfl⟩
theorem rts : Statement .rts := ⟨rfl, _, _, rfl, rfl⟩
theorem pha : Statement .pha := ⟨rfl, _, _, rfl, rfl⟩
theorem pla : Statement .pla := ⟨rfl, _, _, rfl, rfl⟩
theorem php : Statement .php := ⟨rfl, _, _, rfl, rfl⟩
theorem plp : Statement .plp := ⟨rfl, _, _, rfl, rfl⟩
theorem clc : Statement .clc := ⟨rfl, _, _, rfl, rfl⟩
theorem sec : Statement .sec := ⟨rfl, _, _, rfl, rfl⟩
theorem cli : Statement .cli := ⟨rfl, _, _, rfl, rfl⟩
theorem sei : Statement .sei := ⟨rfl, _, _, rfl, rfl⟩
theorem cld : Statement .cld := ⟨rfl, _, _, rfl, rfl⟩
theorem sed : Statement .sed := ⟨rfl, _, _, rfl, rfl⟩
theorem clv : Statement .clv := ⟨rfl, _, _, rfl, rfl⟩
theorem nop : Statement .nop := ⟨rfl, _, _, rfl, rfl⟩
theorem brk : Statement .brk := ⟨rfl, _, _, rfl, rfl⟩
theorem rti : Statement .rti := ⟨rfl, _, _, rfl, rfl⟩

end Sys2Proof.Laws.Encoding
end

