-- ==== Sys2Proof/Laws/Step.lean ====
section
/-! SUPPORT. What a step can do, by the state of the run and by what the boundary finds; provers cite these instead of unfolding
`step` and `boundary`. -/

namespace Sys2Proof.Machine

theorem step_halted {s : State} (h : s.run = .halted) : step s = .next (callerStep s) := by
  unfold step
  split
  · rfl
  · simp_all

theorem step_running {s : State} (h : s.run = .running) : step s =
    match boundary { s with busLog := [] } with
    | .over t => .next t
    | .fetch t => fetchStep t := by
  unfold step
  split
  · simp_all
  · rfl

/-- A running step that the boundary ends. -/
theorem step_over {s t : State} (h : s.run = .running) (e : boundary { s with busLog := [] } = .over t) :
    step s = .next t := by rw [step_running h, e]

/-- A running step that the boundary leaves to the fetch. -/
theorem step_fetch {s t : State} (h : s.run = .running) (e : boundary { s with busLog := [] } = .fetch t) :
    step s = fetchStep t := by rw [step_running h, e]

/-- Everything the boundary can find, in the priority of R283. -/
theorem boundary_cases (s : State) :
    (s.budget ≤ s.cyc ∧ boundary s = .over (stopRun .budgetExhausted s)) ∨
    (s.cyc < s.budget ∧ (sampleInputs s).nmiPending = true ∧ boundary s = .over (nmiEntry (sampleInputs s))) ∨
    (s.cyc < s.budget ∧ (sampleInputs s).nmiPending = false ∧ (irqLevel s && !s.flags.i) = true ∧
      boundary s = .over (irqEntry (sampleInputs s))) ∨
    (s.cyc < s.budget ∧ (sampleInputs s).nmiPending = false ∧ (irqLevel s && !s.flags.i) = false ∧
      boundary s = .fetch (sampleInputs s)) := by
  unfold boundary
  by_cases hb : s.budget ≤ s.cyc
  · exact .inl ⟨hb, if_pos hb⟩
  · have hb' : s.cyc < s.budget := Nat.lt_of_not_le hb
    rw [if_neg hb]
    by_cases hn : (sampleInputs s).nmiPending = true
    · exact .inr (.inl ⟨hb', hn, if_pos hn⟩)
    · rw [if_neg hn]
      have hn' := Bool.eq_false_iff.mpr hn
      by_cases hi : (irqLevel s && !s.flags.i) = true
      · exact .inr (.inr (.inl ⟨hb', hn', hi, if_pos hi⟩))
      · exact .inr (.inr (.inr ⟨hb', hn', Bool.eq_false_iff.mpr hi, if_neg hi⟩))

/-- `s` with PC moved `n` bytes on, after those bytes were read as fetch bytes. -/
def fetched (s : State) (reads : List Addr) (pc : Addr) : State := { withReads s reads with pc := pc }

/-- The operand fetch only reads, stops at the first halting byte, and only PC moves (R103). -/
theorem fetchOperands_cases (m : Mode) (s : State) :
    (∃ bytes reads, fetchOperands m s = .done bytes (fetched s reads (s.pc + BitVec.ofNat 16 m.operandBytes))) ∨
    ∃ reads a pc, isHalt s a = true ∧ fetchOperands m s = .halt (logCall (.read a) (fetched s reads pc)) := by
  have one : (∃ b reads, (fetchByte s).andThen (fun b t => Access.done [b] t) =
        .done b (fetched s reads (s.pc + 1#16))) ∨
      ∃ reads a pc, isHalt s a = true ∧
        (fetchByte s).andThen (fun b t => Access.done [b] t) = .halt (logCall (.read a) (fetched s reads pc)) := by
    cases h : isHalt s s.pc
    · exact .inl ⟨[busRead s 0 s.pc], [s.pc], by rw [fetchByte_done h]; rfl⟩
    · exact .inr ⟨[], s.pc, s.pc, h, by rw [fetchByte_halt h]; simp [fetched]⟩
  have two : (∃ b reads, (fetchByte s).andThen (fun l t => (fetchByte t).andThen fun h u => Access.done [l, h] u) =
        .done b (fetched s reads (s.pc + 2#16))) ∨
      ∃ reads a pc, isHalt s a = true ∧
        (fetchByte s).andThen (fun l t => (fetchByte t).andThen fun h u => Access.done [l, h] u) =
          .halt (logCall (.read a) (fetched s reads pc)) := by
    have e2 : s.pc + 1#16 + 1#16 = s.pc + 2#16 := by rw [BitVec.add_assoc]; rfl
    cases h : isHalt s s.pc
    · cases h' : isHalt s (s.pc + 1#16)
      · refine .inl ⟨[busRead s 0 s.pc, busRead s 1 (s.pc + 1#16)], [s.pc, s.pc + 1#16], ?_⟩
        rw [fetchByte_done h, andThen_done, fetchByte_done (by exact h'), andThen_done]
        have eb : busRead { withReads s [s.pc] with pc := s.pc + 1#16 } 0 (s.pc + 1#16) = busRead s 1 (s.pc + 1#16) :=
          withReads_busRead s [s.pc] 0 (s.pc + 1#16)
        simp only [eb, e2]
        simp [fetched, withReads]
      · refine .inr ⟨[s.pc], s.pc + 1#16, s.pc + 1#16, h', ?_⟩
        rw [fetchByte_done h, andThen_done, fetchByte_halt (by exact h'), andThen_halt]
        rfl
    · exact .inr ⟨[], s.pc, s.pc, h, by rw [fetchByte_halt h]; simp [fetched]⟩
  have none' : ∃ b reads, (Access.done [] s : Access (List Byte)) = .done b (fetched s reads (s.pc + 0#16)) :=
    ⟨[], [], by simp [fetched, withReads]⟩
  have imm : (∃ b reads, (memRead s.pc { s with pc := s.pc + 1#16 }).andThen (fun b t => Access.done [b] t) =
        .done b (fetched s reads (s.pc + 1#16))) ∨
      ∃ reads a pc, isHalt s a = true ∧ (memRead s.pc { s with pc := s.pc + 1#16 }).andThen
        (fun b t => Access.done [b] t) = .halt (logCall (.read a) (fetched s reads pc)) := by
    rcases memRead_cases s.pc { s with pc := s.pc + 1#16 } with ⟨_, e⟩ | ⟨h, e⟩
    · exact .inl ⟨[busRead s 0 s.pc], [s.pc], by rw [e]; rfl⟩
    · exact .inr ⟨[], s.pc, s.pc + 1#16, h, by rw [e]; simp [fetched]⟩
  cases m with
  | implied => exact .inl none'
  | accumulator => exact .inl none'
  | immediate => exact imm
  | zeroPage => exact one
  | zeroPageX => exact one
  | zeroPageY => exact one
  | indirectX => exact one
  | indirectY => exact one
  | relative => exact one
  | absolute => exact two
  | absoluteX => exact two
  | absoluteY => exact two
  | indirect => exact two

end Sys2Proof.Machine
end

