-- ==== Sys2Proof/Tests/Slice0.lean ====
section
/-! SUPPORT. The model's own tests. Expected values come from the spec: the encodings of 30_encoding.md R85 and the vectors of
95_test_vectors.md, which each test names. The `witness_` theorems show that the hypotheses of each statement can be met. -/

namespace Sys2Proof.Tests

open Sys2Proof.Machine Sys2Proof.Claim

/-- A RAM with the given bytes. -/
def ram (cells : List (Nat × Byte)) : Memory := cells.foldl (fun m c => Memory.write m c.1 c.2) []

/-- The bytes of a program at `a`, `a + 1`, …. -/
def code (a : Nat) (bytes : List Byte) : List (Nat × Byte) :=
  match bytes with
  | [] => []
  | b :: bs => (a, b) :: code (a + 1) bs

/-- The Construct state with a run in progress at `pc` over the given RAM (the conventions of 95_test_vectors.md). -/
def launched (pc : Addr) (cells : List (Nat × Byte)) : State :=
  { State.construct (ram cells) [] Config.defaultHaltAddrs with pc := pc, run := .running, budget := 1000 }

/-- `launched` at 0x0200 with a program there and further bytes of data. -/
def program (bytes : List Byte) (data : List (Nat × Byte)) : State := launched 0x0200#16 (code 0x0200 bytes ++ data)

/-- `s` with no halt address. -/
def neverHalts (s : State) : State := { s with haltAddrs := [] }

/-- The next state of an outcome, for the witnesses. -/
def after (o : Host.Outcome State Fault Refusal) : State :=
  match o with
  | .next t => t
  | .fault _ => State.reset
  | .refused _ => State.reset

/-- One step from `s` answers a next state with the property. -/
def stepGives (s : State) (p : State → Bool) : Bool :=
  match step s with
  | .next t => p t
  | .fault _ => false
  | .refused _ => false

/-- N, Z, C, V of a state. -/
def nzcv (s : State) : List Bool := [s.flags.n, s.flags.z, s.flags.c, s.flags.v]

/-- All seven flags zero. -/
def noFlags : Flags := { c := false, z := false, i := false, d := false, b := false, v := false, n := false }

/-- The bus writes of a step, in order. -/
def writes (s : State) : List (Addr × Byte) :=
  s.busLog.filterMap fun c =>
    match c with
    | .read _ => none
    | .write a v => some (a, v)

/-- The bytes are exactly one instruction, `i`. -/
def decodesTo (bytes : List Byte) (i : Instr) : Bool :=
  match decode bytes with
  | .ok (j, []) => decide (j = i)
  | .ok (_, _ :: _) => false
  | .error _ => false

/-- The decoder refuses the bytes with the reason `e`. -/
def refuses (bytes : List Byte) (e : DecodeError) : Bool :=
  match decode bytes with
  | .ok _ => false
  | .error e' => decide (e' = e)

/-! ## Well-formedness -/

theorem test_no_bytes_are_no_instruction : bytesWellFormed [] = false ∧ refuses [] .noBytes = true := by decide

theorem test_illegal_opcode_is_refused :
    bytesWellFormed [0x02#8] = false ∧ refuses [0x02#8] (.illegalOpcode 0x02#8) = true := by decide

theorem test_missing_operand_byte_is_refused :
    bytesWellFormed [0xAD#8, 0x34#8] = false ∧ refuses [0xAD#8, 0x34#8] (.truncated 0xAD#8) = true := by decide

theorem test_surplus_byte_is_refused :
    bytesWellFormed [0xEA#8, 0x00#8] = false ∧ decodesTo [0xEA#8, 0x00#8] .nop = false := by decide

/-! ## Decoding: a word of every row, from R85 and R81 -/

/-- Every pair's bytes decode to its instruction. -/
def allDecode (rows : List (List Byte × Instr)) : Bool := rows.all fun r => decodesTo r.1 r.2

theorem test_decode_load_store_transfer_a : allDecode
    [([0x81#8, 0x34#8], .staIndX 0x34#8), ([0x84#8, 0x34#8], .styZp 0x34#8), ([0x85#8, 0x34#8], .staZp 0x34#8),
     ([0x86#8, 0x34#8], .stxZp 0x34#8), ([0x8A#8], .txa), ([0x8C#8, 0x34#8, 0x12#8], .styAbs 0x1234#16),
     ([0x8D#8, 0x34#8, 0x12#8], .staAbs 0x1234#16), ([0x8E#8, 0x34#8, 0x12#8], .stxAbs 0x1234#16),
     ([0x91#8, 0x34#8], .staIndY 0x34#8), ([0x94#8, 0x34#8], .styZpX 0x34#8),
     ([0x95#8, 0x34#8], .staZpX 0x34#8), ([0x96#8, 0x34#8], .stxZpY 0x34#8), ([0x98#8], .tya),
     ([0x99#8, 0x34#8, 0x12#8], .staAbsY 0x1234#16), ([0x9A#8], .txs),
     ([0x9D#8, 0x34#8, 0x12#8], .staAbsX 0x1234#16)] = true := by decide

theorem test_decode_load_store_transfer_b : allDecode
    [([0xA0#8, 0x34#8], .ldyImm 0x34#8), ([0xA1#8, 0x34#8], .ldaIndX 0x34#8),
     ([0xA2#8, 0x34#8], .ldxImm 0x34#8), ([0xA4#8, 0x34#8], .ldyZp 0x34#8), ([0xA5#8, 0x34#8], .ldaZp 0x34#8),
     ([0xA6#8, 0x34#8], .ldxZp 0x34#8), ([0xA8#8], .tay), ([0xA9#8, 0x34#8], .ldaImm 0x34#8), ([0xAA#8], .tax),
     ([0xAC#8, 0x34#8, 0x12#8], .ldyAbs 0x1234#16), ([0xAD#8, 0x34#8, 0x12#8], .ldaAbs 0x1234#16),
     ([0xAE#8, 0x34#8, 0x12#8], .ldxAbs 0x1234#16), ([0xB1#8, 0x34#8], .ldaIndY 0x34#8),
     ([0xB4#8, 0x34#8], .ldyZpX 0x34#8), ([0xB5#8, 0x34#8], .ldaZpX 0x34#8),
     ([0xB6#8, 0x34#8], .ldxZpY 0x34#8)] = true := by decide

theorem test_decode_load_store_transfer_c : allDecode
    [([0xB9#8, 0x34#8, 0x12#8], .ldaAbsY 0x1234#16), ([0xBA#8], .tsx),
     ([0xBC#8, 0x34#8, 0x12#8], .ldyAbsX 0x1234#16), ([0xBD#8, 0x34#8, 0x12#8], .ldaAbsX 0x1234#16),
     ([0xBE#8, 0x34#8, 0x12#8], .ldxAbsY 0x1234#16)] = true := by decide

theorem test_decode_arithmetic : allDecode
    [([0x61#8, 0x34#8], .adcIndX 0x34#8), ([0x65#8, 0x34#8], .adcZp 0x34#8),
     ([0x69#8, 0x34#8], .adcImm 0x34#8), ([0x6D#8, 0x34#8, 0x12#8], .adcAbs 0x1234#16),
     ([0x71#8, 0x34#8], .adcIndY 0x34#8), ([0x75#8, 0x34#8], .adcZpX 0x34#8),
     ([0x79#8, 0x34#8, 0x12#8], .adcAbsY 0x1234#16), ([0x7D#8, 0x34#8, 0x12#8], .adcAbsX 0x1234#16),
     ([0xE1#8, 0x34#8], .sbcIndX 0x34#8), ([0xE5#8, 0x34#8], .sbcZp 0x34#8),
     ([0xE9#8, 0x34#8], .sbcImm 0x34#8), ([0xED#8, 0x34#8, 0x12#8], .sbcAbs 0x1234#16),
     ([0xF1#8, 0x34#8], .sbcIndY 0x34#8), ([0xF5#8, 0x34#8], .sbcZpX 0x34#8),
     ([0xF9#8, 0x34#8, 0x12#8], .sbcAbsY 0x1234#16), ([0xFD#8, 0x34#8, 0x12#8], .sbcAbsX 0x1234#16)] = true := by decide

theorem test_decode_logic_a : allDecode
    [([0x01#8, 0x34#8], .oraIndX 0x34#8), ([0x05#8, 0x34#8], .oraZp 0x34#8),
     ([0x09#8, 0x34#8], .oraImm 0x34#8), ([0x0D#8, 0x34#8, 0x12#8], .oraAbs 0x1234#16),
     ([0x11#8, 0x34#8], .oraIndY 0x34#8), ([0x15#8, 0x34#8], .oraZpX 0x34#8),
     ([0x19#8, 0x34#8, 0x12#8], .oraAbsY 0x1234#16), ([0x1D#8, 0x34#8, 0x12#8], .oraAbsX 0x1234#16),
     ([0x21#8, 0x34#8], .andIndX 0x34#8), ([0x24#8, 0x34#8], .bitZp 0x34#8), ([0x25#8, 0x34#8], .andZp 0x34#8),
     ([0x29#8, 0x34#8], .andImm 0x34#8), ([0x2C#8, 0x34#8, 0x12#8], .bitAbs 0x1234#16),
     ([0x2D#8, 0x34#8, 0x12#8], .andAbs 0x1234#16), ([0x31#8, 0x34#8], .andIndY 0x34#8),
     ([0x35#8, 0x34#8], .andZpX 0x34#8)] = true := by decide

theorem test_decode_logic_b : allDecode
    [([0x39#8, 0x34#8, 0x12#8], .andAbsY 0x1234#16), ([0x3D#8, 0x34#8, 0x12#8], .andAbsX 0x1234#16),
     ([0x41#8, 0x34#8], .eorIndX 0x34#8), ([0x45#8, 0x34#8], .eorZp 0x34#8),
     ([0x49#8, 0x34#8], .eorImm 0x34#8), ([0x4D#8, 0x34#8, 0x12#8], .eorAbs 0x1234#16),
     ([0x51#8, 0x34#8], .eorIndY 0x34#8), ([0x55#8, 0x34#8], .eorZpX 0x34#8),
     ([0x59#8, 0x34#8, 0x12#8], .eorAbsY 0x1234#16), ([0x5D#8, 0x34#8, 0x12#8], .eorAbsX 0x1234#16)] = true := by decide

theorem test_decode_shift_rotate_a : allDecode
    [([0x06#8, 0x34#8], .aslZp 0x34#8), ([0x0A#8], .aslAcc), ([0x0E#8, 0x34#8, 0x12#8], .aslAbs 0x1234#16),
     ([0x16#8, 0x34#8], .aslZpX 0x34#8), ([0x1E#8, 0x34#8, 0x12#8], .aslAbsX 0x1234#16),
     ([0x26#8, 0x34#8], .rolZp 0x34#8), ([0x2A#8], .rolAcc), ([0x2E#8, 0x34#8, 0x12#8], .rolAbs 0x1234#16),
     ([0x36#8, 0x34#8], .rolZpX 0x34#8), ([0x3E#8, 0x34#8, 0x12#8], .rolAbsX 0x1234#16),
     ([0x46#8, 0x34#8], .lsrZp 0x34#8), ([0x4A#8], .lsrAcc), ([0x4E#8, 0x34#8, 0x12#8], .lsrAbs 0x1234#16),
     ([0x56#8, 0x34#8], .lsrZpX 0x34#8), ([0x5E#8, 0x34#8, 0x12#8], .lsrAbsX 0x1234#16),
     ([0x66#8, 0x34#8], .rorZp 0x34#8)] = true := by decide

theorem test_decode_shift_rotate_b : allDecode
    [([0x6A#8], .rorAcc), ([0x6E#8, 0x34#8, 0x12#8], .rorAbs 0x1234#16), ([0x76#8, 0x34#8], .rorZpX 0x34#8),
     ([0x7E#8, 0x34#8, 0x12#8], .rorAbsX 0x1234#16)] = true := by decide

theorem test_decode_compare_incdec_a : allDecode
    [([0x88#8], .dey), ([0xC0#8, 0x34#8], .cpyImm 0x34#8), ([0xC1#8, 0x34#8], .cmpIndX 0x34#8),
     ([0xC4#8, 0x34#8], .cpyZp 0x34#8), ([0xC5#8, 0x34#8], .cmpZp 0x34#8), ([0xC6#8, 0x34#8], .decZp 0x34#8),
     ([0xC8#8], .iny), ([0xC9#8, 0x34#8], .cmpImm 0x34#8), ([0xCA#8], .dex),
     ([0xCC#8, 0x34#8, 0x12#8], .cpyAbs 0x1234#16), ([0xCD#8, 0x34#8, 0x12#8], .cmpAbs 0x1234#16),
     ([0xCE#8, 0x34#8, 0x12#8], .decAbs 0x1234#16), ([0xD1#8, 0x34#8], .cmpIndY 0x34#8),
     ([0xD5#8, 0x34#8], .cmpZpX 0x34#8), ([0xD6#8, 0x34#8], .decZpX 0x34#8),
     ([0xD9#8, 0x34#8, 0x12#8], .cmpAbsY 0x1234#16)] = true := by decide

theorem test_decode_compare_incdec_b : allDecode
    [([0xDD#8, 0x34#8, 0x12#8], .cmpAbsX 0x1234#16), ([0xDE#8, 0x34#8, 0x12#8], .decAbsX 0x1234#16),
     ([0xE0#8, 0x34#8], .cpxImm 0x34#8), ([0xE4#8, 0x34#8], .cpxZp 0x34#8), ([0xE6#8, 0x34#8], .incZp 0x34#8),
     ([0xE8#8], .inx), ([0xEC#8, 0x34#8, 0x12#8], .cpxAbs 0x1234#16),
     ([0xEE#8, 0x34#8, 0x12#8], .incAbs 0x1234#16), ([0xF6#8, 0x34#8], .incZpX 0x34#8),
     ([0xFE#8, 0x34#8, 0x12#8], .incAbsX 0x1234#16)] = true := by decide

theorem test_decode_branch : allDecode
    [([0x10#8, 0x34#8], .bpl 0x34#8), ([0x30#8, 0x34#8], .bmi 0x34#8), ([0x50#8, 0x34#8], .bvc 0x34#8),
     ([0x70#8, 0x34#8], .bvs 0x34#8), ([0x90#8, 0x34#8], .bcc 0x34#8), ([0xB0#8, 0x34#8], .bcs 0x34#8),
     ([0xD0#8, 0x34#8], .bne 0x34#8), ([0xF0#8, 0x34#8], .beq 0x34#8)] = true := by decide

theorem test_decode_jump_subroutine : allDecode
    [([0x20#8, 0x34#8, 0x12#8], .jsr 0x1234#16), ([0x4C#8, 0x34#8, 0x12#8], .jmpAbs 0x1234#16),
     ([0x60#8], .rts), ([0x6C#8, 0x34#8, 0x12#8], .jmpInd 0x1234#16)] = true := by decide

theorem test_decode_stack_flag_nop : allDecode
    [([0x08#8], .php), ([0x18#8], .clc), ([0x28#8], .plp), ([0x38#8], .sec), ([0x48#8], .pha),
     ([0x58#8], .cli), ([0x68#8], .pla), ([0x78#8], .sei), ([0xB8#8], .clv), ([0xD8#8], .cld),
     ([0xEA#8], .nop), ([0xF8#8], .sed)] = true := by decide

theorem test_decode_break_interrupt : allDecode
    [([0x00#8], .brk), ([0x40#8], .rti)] = true := by decide

theorem test_table_words : decodeTableWord 8 0xA9 = some (.ldaImm 0x00#8) ∧ decodeTableWord 24 0x1234AD = some (.ldaAbs 0x1234#16) ∧
    decodeTableWord 8 0x02 = none := by decide

theorem test_withFetchWord_runs_the_word_from_reset :
    stepGives (State.reset.withFetchWord 24 0x12345678) (fun t => decide (t.cyc = 2 ∧ t.flags.i = true)) = true ∧
    stepGives (State.reset.withFetchWord 8 0xE8) (fun t => decide (t.x = 0x01#8 ∧ t.pc = 0x0001#16 ∧ t.cyc = 2)) = true := by decide

/-! ## The resolver and the run loop: 95_test_vectors.md 2.1 -/

theorem test_V_40_3_ldx_zp_y : stepGives { program [0xB6#8, 0x10#8] [(0x05, 0x42#8)] with y := 0xF5#8 }
    (fun t => decide (t.x = 0x42#8 ∧ t.cyc = 4)) = true := by decide

theorem test_V_40_4_stx_zp_y : stepGives { program [0x96#8, 0xFF#8] [] with x := 0x09#8, y := 0x02#8 }
    (fun t => decide (writes t = [(0x0001#16, 0x09#8)] ∧ t.cyc = 4)) = true := by decide

theorem test_V_40_5_ldy_abs_x : stepGives { program [0xBC#8, 0x34#8, 0x12#8] [(0x1235, 0xFF#8)] with x := 0x01#8 }
    (fun t => decide (t.y = 0xFF#8 ∧ t.flags.n = true ∧ t.cyc = 4)) = true := by decide

theorem test_V_40_6_lda_abs_x_crosses : stepGives { program [0xBD#8, 0xFF#8, 0x12#8] [(0x1300, 0x01#8)] with x := 0x01#8 }
    (fun t => decide (t.a = 0x01#8 ∧ t.cyc = 5)) = true := by decide

theorem test_V_40_7_sta_abs_x : stepGives { program [0x9D#8, 0xFF#8, 0x12#8] [] with a := 0x55#8, x := 0x01#8 }
    (fun t => decide (writes t = [(0x1300#16, 0x55#8)] ∧ t.cyc = 5)) = true := by decide

theorem test_V_40_8_lda_abs_x_wraps : stepGives { program [0xBD#8, 0xFF#8, 0xFF#8] [(0x0001, 0x11#8)] with x := 0x02#8 }
    (fun t => decide (t.a = 0x11#8 ∧ t.cyc = 5)) = true := by decide

theorem test_V_40_9_eor_ind_x : stepGives
    { program [0x41#8, 0xFE#8] [(0xFF, 0x00#8), (0x00, 0x03#8), (0x0300, 0xF0#8)] with a := 0x0F#8, x := 0x01#8 }
    (fun t => decide (t.a = 0xFF#8 ∧ t.flags.n = true ∧ t.cyc = 6)) = true := by decide

theorem test_V_40_10_sta_ind_y : stepGives
    { program [0x91#8, 0x10#8] [(0x10, 0xF8#8), (0x11, 0x12#8)] with a := 0x77#8, y := 0x10#8 }
    (fun t => decide (writes t = [(0x1308#16, 0x77#8)] ∧ t.cyc = 6)) = true := by decide

theorem test_V_40_11_lda_ind_y_crosses : stepGives
    { program [0xB1#8, 0x10#8] [(0x10, 0xF8#8), (0x11, 0x12#8), (0x1308, 0x80#8)] with y := 0x10#8 }
    (fun t => decide (t.a = 0x80#8 ∧ t.flags.n = true ∧ t.cyc = 6)) = true := by decide

theorem test_L1_6_lda_ind_y_pointer_wraps : stepGives
    { program [0xB1#8, 0xFF#8] [(0x00FF, 0x00#8), (0x0000, 0x03#8), (0x0100, 0x07#8), (0x0301, 0x5A#8)] with y := 0x01#8 }
    (fun t => decide (t.a = 0x5A#8 ∧ t.cyc = 5 ∧ t.pc = 0x0202#16)) = true := by decide

theorem test_V_40_12_asl_abs_x : stepGives { program [0x1E#8, 0xFF#8, 0x12#8] [(0x1300, 0x81#8)] with x := 0x01#8 }
    (fun t => decide (writes t = [(0x1300#16, 0x02#8)] ∧ nzcv t = [false, false, true, false] ∧ t.cyc = 7)) = true := by decide

theorem test_V_40_14_spent_budget : stepGives { program [0xEA#8] [] with budget := 5, cyc := 5 }
    (fun t => decide (t.reply = some (.ran 5 .budgetExhausted) ∧ t.run = .halted ∧ t.pc = 0x0200#16)) = true := by decide

/-! ## A bus of the caller's own: 00_scope.md R7, 20_memory.md R51 to R53, R58, R64 -/

theorem test_callers_bus_answers_a_read : stepGives
    { program [0xAD#8, 0x00#8, 0x10#8] [(0x1000, 0x11#8)] with bus := [.ram, .ram, .ram, .caller 0x5A#8] }
    (fun t => decide (t.a = 0x5A#8 ∧ t.bus = [] ∧ readByte t 0x1000#16 = 0x11#8)) = true := by decide

theorem test_callers_bus_takes_a_write : stepGives
    { program [0x8D#8, 0x00#8, 0x10#8] [(0x1000, 0x11#8)] with
      a := 0x09#8, bus := [.ram, .ram, .ram, .caller 0x00#8, .caller 0x77#8] }
    (fun t => decide (writes t = [(0x1000#16, 0x09#8)] ∧ readByte t 0x1000#16 = 0x11#8 ∧ t.bus = [.caller 0x77#8])) = true := by
  decide

theorem test_modify_on_the_callers_bus_reads_once_and_writes_once : stepGives
    { program [0xEE#8, 0x00#8, 0x10#8] [] with bus := [.ram, .ram, .ram, .caller 0x7F#8, .caller 0x00#8] }
    (fun t => decide (writes t = [(0x1000#16, 0x80#8)] ∧ t.flags.n = true ∧ t.mem = (program [0xEE#8, 0x00#8, 0x10#8] []).mem)) =
    true := by decide

theorem test_halting_read_is_not_served : stepGives
    { program [0xAD#8, 0xFF#8, 0xFF#8] [] with bus := [.ram, .ram, .ram, .caller 0x5A#8] }
    (fun t => decide (t.a = 0x00#8 ∧ t.run = .halted ∧ t.bus = [.caller 0x5A#8])) = true := by decide

/-! ## Loads, stores, transfers: 2.8 -/

theorem test_V_41_1_lda_imm : stepGives { program [0xA9#8, 0x00#8] [] with flags := { noFlags with n := true } }
    (fun t => decide (t.a = 0x00#8 ∧ nzcv t = [false, true, false, false] ∧ t.cyc = 2 ∧ t.pc = 0x0202#16)) = true := by decide

theorem test_V_41_2_sta_zp : stepGives { program [0x85#8, 0x20#8] [] with flags := { noFlags with n := true } }
    (fun t => decide (writes t = [(0x0020#16, 0x00#8)] ∧ t.flags = { noFlags with n := true } ∧ t.cyc = 3)) = true := by decide

theorem test_V_41_3_sty_abs : stepGives { program [0x8C#8, 0x00#8, 0x10#8] [] with y := 0x03#8 }
    (fun t => decide (writes t = [(0x1000#16, 0x03#8)] ∧ readByte t 0x1000#16 = 0x03#8 ∧ t.cyc = 4)) = true := by decide

theorem test_V_41_4_a_write_never_halts : stepGives { program [0x8D#8, 0xFF#8, 0xFF#8] [] with a := 0x09#8 }
    (fun t => decide (writes t = [(0xFFFF#16, 0x09#8)] ∧ t.run = .running ∧ t.cyc = 4)) = true := by decide

theorem test_V_41_5_6_tax_tay :
    stepGives (program [0xAA#8] []) (fun t => decide (t.x = 0x00#8 ∧ t.flags.z = true)) = true ∧
    stepGives { program [0xA8#8] [] with a := 0x90#8 } (fun t => decide (t.y = 0x90#8 ∧ t.flags.n = true)) = true := by decide

theorem test_V_41_7_8_txa_tya :
    stepGives { program [0x8A#8] [] with x := 0x01#8, a := 0x80#8 } (fun t => decide (t.a = 0x01#8 ∧ t.flags.n = false)) = true ∧
    stepGives { program [0x98#8] [] with y := 0xFF#8 } (fun t => decide (t.a = 0xFF#8 ∧ t.flags.n = true)) = true := by decide

theorem test_V_41_9_tsx : stepGives { program [0xBA#8] [] with sp := 0x00#8 }
    (fun t => decide (t.x = 0x00#8 ∧ nzcv t = [false, true, false, false])) = true := by decide

theorem test_V_41_11_txs : stepGives { program [0x9A#8] [] with flags := { noFlags with n := true } }
    (fun t => decide (t.sp = 0x00#8 ∧ t.flags = { noFlags with n := true })) = true := by decide

theorem test_V_41_12_lda_halts_on_its_data : stepGives { program [0xAD#8, 0xFF#8, 0xFF#8] [] with a := 0x05#8 }
    (fun t => decide (t.a = 0x05#8 ∧ t.pc = 0x0203#16 ∧ t.cyc = 0 ∧ t.reply = some (.ran 0 .halted))) = true := by decide

theorem test_V_41_13_halt_on_an_operand_byte : stepGives (launched 0xFFFE#16 [(0xFFFE, 0xAD#8)])
    (fun t => decide (t.pc = 0xFFFF#16 ∧ t.run = .halted ∧ t.cyc = 0)) = true := by decide

/-! ## Arithmetic: 2.2. A row is A, operand, C in, A out, [N, V, Z, C] -/

/-- ADC or SBC immediate (by its opcode) gives what every row says. -/
def sums (opcode : Byte) (decimal : Bool) (rows : List (Byte × Byte × Bool × Byte × List Bool)) : Bool :=
  rows.all fun r =>
    stepGives { program [opcode, r.2.1] [] with a := r.1, flags := { noFlags with d := decimal, c := r.2.2.1 } } fun t =>
      decide (t.a = r.2.2.2.1 ∧ [t.flags.n, t.flags.v, t.flags.z, t.flags.c] = r.2.2.2.2 ∧ t.cyc = 2 ∧ t.flags.d = decimal)

theorem test_V_42_2_to_6_adc_binary : sums 0x69#8 false
    [(0x50#8, 0x50#8, false, 0xA0#8, [true, true, false, false]), (0xFF#8, 0x01#8, false, 0x00#8, [false, false, true, true]),
     (0x80#8, 0x80#8, false, 0x00#8, [false, true, true, true]), (0x7F#8, 0x00#8, true, 0x80#8, [true, true, false, false]),
     (0xFF#8, 0xFF#8, true, 0xFF#8, [true, false, false, true])] = true := by decide

theorem test_V_42_16_to_26_adc_decimal : sums 0x69#8 true
    [(0x58#8, 0x46#8, true, 0x05#8, [true, true, false, true]), (0x99#8, 0x01#8, false, 0x00#8, [true, false, false, true]),
     (0x79#8, 0x00#8, true, 0x80#8, [true, true, false, false]), (0x80#8, 0x80#8, false, 0x60#8, [false, true, true, true]),
     (0x90#8, 0x90#8, false, 0x80#8, [false, true, false, true]), (0x0F#8, 0x01#8, false, 0x16#8, [false, false, false, false]),
     (0xFF#8, 0xFF#8, true, 0x55#8, [true, false, false, true])] = true := by decide

theorem test_V_42_8_to_14_sbc_binary : sums 0xE9#8 false
    [(0x50#8, 0xF0#8, true, 0x60#8, [false, false, false, false]), (0xD0#8, 0x70#8, true, 0x60#8, [false, true, false, true]),
     (0x00#8, 0x00#8, false, 0xFF#8, [true, false, false, false]), (0x05#8, 0x05#8, true, 0x00#8, [false, false, true, true]),
     (0x80#8, 0x01#8, true, 0x7F#8, [false, true, false, true])] = true := by decide

theorem test_V_42_28_to_34_sbc_decimal : sums 0xE9#8 true
    [(0x40#8, 0x13#8, true, 0x27#8, [false, false, false, true]), (0x00#8, 0x01#8, true, 0x99#8, [true, false, false, false]),
     (0x32#8, 0x02#8, false, 0x29#8, [false, false, false, true]), (0x00#8, 0x00#8, false, 0x99#8, [true, false, false, false]),
     (0x20#8, 0x0F#8, true, 0x1B#8, [false, false, false, true]), (0x0A#8, 0x00#8, true, 0x0A#8, [false, false, false, true])] =
    true := by decide

/-! ## Logic, shifts, compares, increments: 2.3 to 2.5 -/

theorem test_V_43_1_and : stepGives { program [0x29#8, 0x0F#8] [] with a := 0xF0#8 }
    (fun t => decide (t.a = 0x00#8 ∧ t.flags.z = true ∧ t.flags.n = false)) = true := by decide

theorem test_V_43_3_ora : stepGives { program [0x09#8, 0x80#8] [] with a := 0x01#8 }
    (fun t => decide (t.a = 0x81#8 ∧ t.flags.n = true)) = true := by decide

theorem test_V_43_4_eor : stepGives { program [0x49#8, 0xFF#8] [] with a := 0xFF#8 }
    (fun t => decide (t.a = 0x00#8 ∧ t.flags.z = true)) = true := by decide

theorem test_V_43_5_bit_zp : stepGives { program [0x24#8, 0x10#8] [(0x10, 0xC0#8)] with a := 0x01#8 }
    (fun t => decide (t.a = 0x01#8 ∧ nzcv t = [true, true, false, true] ∧ t.cyc = 3)) = true := by decide

theorem test_V_43_6_bit_abs : stepGives { program [0x2C#8, 0x00#8, 0x10#8] [(0x1000, 0x3F#8)] with
      a := 0xFF#8, flags := { noFlags with n := true, v := true, z := true } }
    (fun t => decide (nzcv t = [false, false, false, false] ∧ t.cyc = 4)) = true := by decide

theorem test_V_44_1_asl_acc : stepGives { program [0x0A#8] [] with a := 0x80#8 }
    (fun t => decide (t.a = 0x00#8 ∧ nzcv t = [false, true, true, false] ∧ t.busLog = [.read 0x0200#16])) = true := by decide

theorem test_V_44_4_lsr_abs_x : stepGives (program [0x5E#8, 0x00#8, 0x10#8] [(0x1000, 0xFF#8)])
    (fun t => decide (writes t = [(0x1000#16, 0x7F#8)] ∧ nzcv t = [false, false, true, false] ∧ t.cyc = 7)) = true := by decide

theorem test_V_44_6_rol_acc : stepGives { program [0x2A#8] [] with flags := { noFlags with c := true } }
    (fun t => decide (t.a = 0x01#8 ∧ nzcv t = [false, false, false, false])) = true := by decide

theorem test_V_44_8_ror_zp : stepGives { program [0x66#8, 0x10#8] [] with flags := { noFlags with c := true } }
    (fun t => decide (writes t = [(0x0010#16, 0x80#8)] ∧ nzcv t = [true, false, false, false])) = true := by decide

theorem test_V_44_9_inc_halts_on_its_read : stepGives (program [0xEE#8, 0xFF#8, 0xFF#8] [])
    (fun t => decide (writes t = [] ∧ t.flags = resetFlags ∧ t.pc = 0x0203#16 ∧ t.cyc = 0)) = true := by decide

/-- CMP, CPX or CPY immediate with register R and operand M gives [C, Z, N], whatever the carry was. -/
def compares (opcode : Byte) (withReg : Byte → State → State) (rows : List (Byte × Byte × List Bool)) : Bool :=
  rows.all fun r => [false, true].all fun c =>
    stepGives (withReg r.1 { program [opcode, r.2.1] [] with flags := { noFlags with c := c, v := true } }) fun t =>
      decide ([t.flags.c, t.flags.z, t.flags.n] = r.2.2 ∧ t.flags.v = true)

theorem test_V_45_1_to_6_cmp : compares 0xC9#8 (fun v s => { s with a := v })
    [(0x10#8, 0x10#8, [true, true, false]), (0x10#8, 0x20#8, [false, false, true]), (0x20#8, 0x10#8, [true, false, false]),
     (0x00#8, 0xFF#8, [false, false, false]), (0xFF#8, 0x00#8, [true, false, true]), (0x80#8, 0x01#8, [true, false, false])] =
    true := by decide

theorem test_V_45_7_8_cpx_cpy :
    compares 0xE0#8 (fun v s => { s with x := v }) [(0x04#8, 0x05#8, [false, false, true])] = true ∧
    compares 0xC0#8 (fun v s => { s with y := v }) [(0x04#8, 0x04#8, [true, true, false])] = true := by decide

theorem test_V_45_9_inc : stepGives { program [0xE6#8, 0x10#8] [(0x10, 0xFF#8)] with flags := { noFlags with c := true } }
    (fun t => decide (writes t = [(0x0010#16, 0x00#8)] ∧ nzcv t = [false, true, true, false] ∧ t.cyc = 5)) = true := by decide

theorem test_V_45_10_dec : stepGives (program [0xC6#8, 0x10#8] [])
    (fun t => decide (writes t = [(0x0010#16, 0xFF#8)] ∧ t.flags.n = true ∧ t.flags.z = false)) = true := by decide

theorem test_V_45_12_to_15_index_steps :
    stepGives { program [0xE8#8] [] with x := 0x7F#8 } (fun t => decide (t.x = 0x80#8 ∧ t.flags.n = true)) = true ∧
    stepGives { program [0xC8#8] [] with y := 0xFF#8 } (fun t => decide (t.y = 0x00#8 ∧ t.flags.z = true)) = true ∧
    stepGives (program [0xCA#8] []) (fun t => decide (t.x = 0xFF#8 ∧ t.flags.n = true)) = true ∧
    stepGives { program [0x88#8] [] with y := 0x01#8 } (fun t => decide (t.y = 0x00#8 ∧ t.flags.z = true)) = true := by decide

/-! ## Branches, jumps, subroutines: 2.6, 2.7 -/

/-- A branch at `pc` with flags `f` leaves PC and costs as said. -/
def branches (pc : Addr) (bytes : List Byte) (f : Flags) (target : Addr) (cycles : Nat) : Bool :=
  stepGives { launched pc (code pc.toNat bytes) with flags := f } fun t =>
    decide (t.pc = target ∧ t.cyc = cycles ∧ t.flags = f)

theorem test_V_46_1_to_5_branches :
    branches 0x0201#16 [0xD0#8, 0xFD#8] noFlags 0x0200#16 3 = true ∧
    branches 0x0201#16 [0xD0#8, 0xFD#8] { noFlags with z := true } 0x0203#16 2 = true ∧
    branches 0x02F0#16 [0xF0#8, 0x7F#8] { noFlags with z := true } 0x0371#16 4 = true ∧
    branches 0x0300#16 [0x30#8, 0x80#8] { noFlags with n := true } 0x0282#16 4 = true ∧
    branches 0xFFF0#16 [0x10#8, 0x20#8] noFlags 0x0012#16 4 = true := by decide

theorem test_V_46_6_to_9_branches :
    branches 0x0200#16 [0x90#8, 0x00#8] noFlags 0x0202#16 3 = true ∧
    branches 0x0200#16 [0xB0#8, 0x02#8] { noFlags with c := true } 0x0204#16 3 = true ∧
    branches 0x0200#16 [0x50#8, 0x04#8] { noFlags with v := true } 0x0202#16 2 = true ∧
    branches 0x0200#16 [0x70#8, 0xFE#8] { noFlags with v := true } 0x0200#16 3 = true := by decide

theorem test_V_47_1_jmp_abs : stepGives (program [0x4C#8, 0x34#8, 0x12#8] [])
    (fun t => decide (t.pc = 0x1234#16 ∧ t.cyc = 3)) = true := by decide

theorem test_V_47_2_jmp_ind_page_wrap : stepGives
    (launched 0x0400#16 (code 0x0400 [0x6C#8, 0xFF#8, 0x02#8] ++ [(0x02FF, 0x34#8), (0x0200, 0x12#8), (0x0300, 0x56#8)]))
    (fun t => decide (t.pc = 0x1234#16 ∧ t.cyc = 5)) = true := by decide

theorem test_V_47_3_jsr : stepGives (launched 0x0300#16 (code 0x0300 [0x20#8, 0x00#8, 0x04#8]))
    (fun t => decide (writes t = [(0x01FD#16, 0x03#8), (0x01FC#16, 0x02#8)] ∧ t.sp = 0xFB#8 ∧ t.pc = 0x0400#16 ∧ t.cyc = 6)) =
    true := by decide

theorem test_V_47_5_jsr_wraps : stepGives
    { neverHalts (launched 0xFFFE#16 [(0xFFFE, 0x20#8), (0x0000, 0x04#8)]) with sp := 0x00#8 }
    (fun t => decide (writes t = [(0x0100#16, 0x00#8), (0x01FF#16, 0x00#8)] ∧ t.sp = 0xFE#8 ∧ t.pc = 0x0400#16)) = true := by
  decide

theorem test_V_47_6_rts_wraps : stepGives { program [0x60#8] [(0x0100, 0x34#8), (0x0101, 0x12#8)] with sp := 0xFF#8 }
    (fun t => decide (t.pc = 0x1235#16 ∧ t.sp = 0x01#8 ∧ t.cyc = 6)) = true := by decide

theorem test_V_47_7_rts_adds_one_modulo : stepGives { program [0x60#8] [(0x01FC, 0xFF#8), (0x01FD, 0xFF#8)] with sp := 0xFB#8 }
    (fun t => decide (t.pc = 0x0000#16)) = true := by decide

/-! ## Stack and flags: 2.9 -/

theorem test_V_48_1_pha : stepGives { program [0x48#8] [] with a := 0x42#8, sp := 0x00#8 }
    (fun t => decide (writes t = [(0x0100#16, 0x42#8)] ∧ t.sp = 0xFF#8 ∧ t.cyc = 3)) = true := by decide

theorem test_V_48_2_pla : stepGives { program [0x68#8] [] with a := 0x05#8, sp := 0xFF#8 }
    (fun t => decide (t.a = 0x00#8 ∧ t.flags.z = true ∧ t.sp = 0x00#8 ∧ t.cyc = 4)) = true := by decide

theorem test_V_48_4_php : stepGives { program [0x08#8] [] with flags := { noFlags with c := true, z := true } }
    (fun t => decide (writes t = [(0x01FD#16, 0x33#8)] ∧ t.sp = 0xFC#8)) = true := by decide

theorem test_V_48_6_plp : stepGives { program [0x28#8] [(0x01FD, 0xFF#8)] with sp := 0xFC#8 }
    (fun t => decide (t.flags = ⟨true, true, true, true, true, true, true⟩ ∧ t.sp = 0xFD#8)) = true := by decide

theorem test_V_48_7_plp : stepGives { program [0x28#8] [(0x01FD, 0x24#8)] with sp := 0xFC#8, flags := { noFlags with c := true } }
    (fun t => decide (t.flags = { noFlags with i := true })) = true := by decide

/-- The one-byte instruction turns flags `f` into `g` in 2 cycles. -/
def flagStep (opcode : Byte) (f g : Flags) : Bool :=
  stepGives { program [opcode] [] with flags := f } fun t => decide (t.flags = g ∧ t.cyc = 2 ∧ t.pc = 0x0201#16)

theorem test_V_48_8_to_12_flag_instructions :
    flagStep 0x18#8 { noFlags with c := true } noFlags = true ∧ flagStep 0x38#8 noFlags { noFlags with c := true } = true ∧
    flagStep 0x58#8 { noFlags with i := true } noFlags = true ∧ flagStep 0x78#8 noFlags { noFlags with i := true } = true ∧
    flagStep 0xD8#8 { noFlags with d := true } noFlags = true ∧ flagStep 0xF8#8 noFlags { noFlags with d := true } = true ∧
    flagStep 0xB8#8 { noFlags with v := true } noFlags = true ∧ flagStep 0xEA#8 noFlags noFlags = true := by decide

/-! ## BRK, RTI, interrupts, stops, reset: 2.10, 2.11 -/

theorem test_V_49_1_brk : stepGives
    { neverHalts (launched 0x0300#16 [(0xFFFF, 0x04#8)]) with flags := noFlags }
    (fun t => decide (writes t = [(0x01FD#16, 0x03#8), (0x01FC#16, 0x02#8), (0x01FB#16, 0x30#8)] ∧ t.sp = 0xFA#8 ∧
      t.flags = { noFlags with b := true, i := true } ∧ t.pc = 0x0400#16 ∧ t.cyc = 7)) = true := by decide

theorem test_V_49_2_brk_halts_on_its_vector : stepGives { launched 0x0300#16 [] with flags := noFlags }
    (fun t => decide (writes t = [(0x01FD#16, 0x03#8), (0x01FC#16, 0x02#8), (0x01FB#16, 0x30#8)] ∧ t.sp = 0xFA#8 ∧
      t.flags = { noFlags with b := true, i := true } ∧ t.pc = 0x0302#16 ∧ t.cyc = 0 ∧ t.run = .halted)) = true := by decide

theorem test_V_49_3_rti : stepGives
    { program [0x40#8] [(0x01FB, 0x30#8), (0x01FC, 0x02#8), (0x01FD, 0x03#8)] with sp := 0xFA#8 }
    (fun t => decide (t.pc = 0x0302#16 ∧ t.sp = 0xFD#8 ∧ t.flags = { noFlags with b := true } ∧ t.cyc = 6)) = true := by decide

theorem test_V_49_4_rti : stepGives { program [0x40#8] [(0x01FB, 0xC3#8), (0x01FD, 0x80#8)] with sp := 0xFA#8 }
    (fun t => decide (t.pc = 0x8000#16 ∧ t.flags = { noFlags with n := true, v := true, z := true, c := true })) = true := by
  decide

/-- The state of V-60-1: an IRQ asserted at a boundary, NOP at PC. -/
def irqAsserted : State :=
  { neverHalts (launched 0x1234#16 [(0x1234, 0xEA#8), (0xFFFF, 0x04#8), (0xFFFB, 0x05#8)]) with
    flags := noFlags, irqLine := [true] }

theorem test_V_60_1_irq : stepGives irqAsserted
    (fun t => decide (writes t = [(0x01FD#16, 0x12#8), (0x01FC#16, 0x34#8), (0x01FB#16, 0x20#8)] ∧ t.sp = 0xFA#8 ∧
      t.flags = { noFlags with i := true } ∧ t.pc = 0x0400#16 ∧ t.cyc = 7)) = true := by decide

theorem test_V_60_2_irq_masked : stepGives { irqAsserted with flags := { noFlags with i := true } }
    (fun t => decide (t.pc = 0x1235#16 ∧ t.cyc = 2)) = true := by decide

theorem test_V_60_3_nmi_over_irq : stepGives { irqAsserted with nmiEdge := [true] }
    (fun t => decide (t.pc = 0x0500#16 ∧ t.nmiPending = false ∧ t.flags.i = true)) = true := by decide

theorem test_V_60_4_nmi_ignores_i : stepGives { irqAsserted with nmiEdge := [true], flags := resetFlags }
    (fun t => decide (t.pc = 0x0500#16 ∧ readByte t 0x01FB#16 = 0x24#8)) = true := by decide

theorem test_V_60_5_illegal_opcode : stepGives (program [0x02#8] [])
    (fun t => decide (t.reply = some (.ran 0 (.illegalOpcode 0x02#8)) ∧ t.pc = 0x0200#16 ∧ t.cyc = 0)) = true := by decide

/-- The state of V-70-1: a Halted core whose caller resets it. -/
def resetCalled : State :=
  { State.construct (ram [(0xFFFD, 0x02#8)]) [] Config.defaultHaltAddrs with
    a := 0x07#8, sp := 0x10#8, flags := { noFlags with d := true }, cyc := 99, pc := 0x1234#16, calls := [.reset] }

theorem test_V_70_1_reset : stepGives resetCalled
    (fun t => decide (t.a = 0x00#8 ∧ t.sp = 0xFD#8 ∧ t.flags = { noFlags with i := true } ∧ t.pc = 0x0200#16 ∧ t.cyc = 99 ∧
      t.reply = some .resetOk)) = true := by decide

theorem test_V_70_2_reset_halts : stepGives { resetCalled with haltAddrs := [0xFFFD#16] }
    (fun t => decide (t.a = 0x00#8 ∧ t.sp = 0xFD#8 ∧ t.pc = 0x1234#16 ∧ t.reply = some .resetHalted)) = true := by decide

/-! ## Witnesses: concrete values that meet the hypotheses of each statement -/

/-- EncodeOfDecodeIsTheBytes. -/
theorem witness_bytes_decode : decode [0xFE#8, 0xFF#8, 0xFF#8, 0x02#8] = .ok (.incAbsX 0xFFFF#16, [0x02#8]) := by rfl

/-- ExactlyTheListedOpcodesAreIllegal, both sides. -/
theorem witness_legality : 0xFF#8 ∈ illegalOpcodes ∧ 0x00#8 ∉ illegalOpcodes ∧ bytesWellFormed [0xFE#8, 0x00#8, 0x00#8] = true := by
  decide

/-- BusReadsAndWrites, its last two clauses: the default bus, plain and spelled out, and the caller's. -/
theorem witness_buses : RamBus State.reset ∧ RamBus { State.reset with bus := [.ram, .ram] } ∧
    ({ State.reset with bus := [.caller 0xFF#8, .ram] } : State).bus = .caller 0xFF#8 :: [.ram] := by
  unfold RamBus
  decide

/-- BusReadsAndWrites: a halt address and another. -/
theorem witness_halt_predicate : isHalt State.reset 0xFFFF#16 = true ∧ isHalt State.reset 0x0000#16 = false := by decide

/-- CanonicalMemoriesThatReadAlikeAreEqual and the second half of EveryStepKeepsTheInvariant: both ends of the address space. -/
theorem witness_canonical_memory : Memory.wf (ram [(0xFFFF, 0x02#8), (0x0000, 0x01#8)]) = true ∧
    ram [(0xFFFF, 0x02#8), (0x0000, 0x01#8)] = [(0x0000, 0x01#8), (0xFFFF, 0x02#8)] := by decide

/-- PushAndPullMoveTheStackPointerInPageOne: SP wraps, its pull halting and not. -/
theorem witness_pull_wraps : (0x00#8 : Byte).toNat = ((0xFF#8 : Byte).toNat + 1) % 256 ∧
    isHalt State.reset (stackAddr 0x00#8) = false ∧ isHalt { State.reset with haltAddrs := [0x0100#16] } (stackAddr 0x00#8) = true := by
  decide

/-- IndirectModesReadTheirPointersWithTheirWraps: the three pointers at their wraps, and each clause of PointerRead. -/
theorem witness_pointer_wraps :
    (0x1200#16 : Addr).toNat = (0x12FF#16 : Addr).toNat / 256 * 256 + ((0x12FF#16 : Addr).toNat + 1) % 256 ∧
    (0x00FF#16 : Addr).toNat = ((0xFE#8 : Byte).toNat + ({ State.reset with x := 0x01#8 } : State).x.toNat) % 256 ∧
    (0x0000#16 : Addr).toNat = ((0xFE#8 : Byte).toNat + ({ State.reset with x := 0x01#8 } : State).x.toNat + 1) % 256 ∧
    (0x00FF#16 : Addr).toNat = (0xFF#8 : Byte).toNat ∧ (0x0000#16 : Addr).toNat = ((0xFF#8 : Byte).toNat + 1) % 256 ∧
    isHalt State.reset 0x00FF#16 = false ∧ isHalt State.reset 0x0000#16 = false ∧
    isHalt { State.reset with haltAddrs := [0x00FF#16] } 0x00FF#16 = true ∧
    isHalt { State.reset with haltAddrs := [0x0000#16] } 0x0000#16 = true := by decide

/-- DecimalAddFollowsTheNmosAlgorithm and DecimalSubtractFollowsTheNmosAlgorithm at the largest decimal digits. -/
theorem witness_decimal_operands : IsBcd 0x99#8 ∧ IsBcd 0x00#8 ∧
    19 = (0x99#8 : Byte).toNat % 16 + (0x99#8 : Byte).toNat % 16 + true.toNat ∧
    25 = (if 10 ≤ 19 then (19 + 6) % 16 + 16 else 19) ∧
    313 = (0x99#8 : Byte).toNat / 16 * 16 + (0x99#8 : Byte).toNat / 16 * 16 + 25 ∧
    (-199 : Int) = highSigned 0x99#8 + highSigned 0x99#8 + (25 : Nat) ∧
    (-10 : Int) = ((0x00#8 : Byte).toNat % 16 : Nat) - (((0x99#8 : Byte).toNat % 16 : Nat) : Int) + false.toNat - 1 ∧
    (-16 : Int) = (if (-10 : Int) < 0 then (-10 - 6) % 16 - 16 else -10) ∧
    (-160 : Int) = ((0x00#8 : Byte).toNat / 16 * 16 : Nat) - (((0x99#8 : Byte).toNat / 16 * 16 : Nat) : Int) + (-16) := by
  unfold IsBcd
  decide

/-- A state for the operand forms: X = 1, Y = 16, pointers at 0xFF (wrapping) and 0x10, which both hold a pointer. -/
def operands : State := { launched 0x0200#16 [(0xFF, 0xF8#8), (0x00, 0x12#8), (0x10, 0xF8#8), (0x11, 0x12#8)] with x := 0x01#8, y := 0x10#8 }

/-- ReadForm, StoreForm and ModifyForm with no halt, for the resolver without and with pointer reads: LdaLoadsTheAccumulator,
LdxAndLdyLoadTheIndexRegisters, StoresWriteOneByteAndNoFlag, AdcAddsInTheModeOfD, SbcSubtractsInTheModeOfD,
LogicOperationsCombineIntoTheAccumulator, BitTestsTheOperand, ShiftsAndRotatesMoveOneBitThroughCarry,
ComparesSetCarryZeroNegative, IncAndDecModifyMemory. -/
theorem witness_operand_resolves :
    resolve (.zpX 0xFF#8) operands = .done ⟨0x0000#16, false⟩ operands ∧
    resolve (.zpY 0xF0#8) operands = .done ⟨0x0000#16, false⟩ operands ∧
    resolve (.absX 0xFFFF#16) operands = .done ⟨0x0000#16, true⟩ operands ∧
    resolve (.absY 0x12EF#16) operands = .done ⟨0x12FF#16, false⟩ operands ∧
    resolve (.indX 0xFE#8) operands = .done ⟨0x12F8#16, false⟩ { operands with busLog := [.read 0x00FF#16, .read 0x0000#16] } ∧
    resolve (.indY 0xFF#8) operands = .done ⟨0x1308#16, true⟩ { operands with busLog := [.read 0x00FF#16, .read 0x0000#16] } ∧
    isHalt operands 0x0000#16 = false ∧ isHalt operands 0x12F8#16 = false ∧ isHalt operands 0x1308#16 = false := by decide

/-- ReadForm and ModifyForm with a halt on the data, in the same statements. -/
theorem witness_data_halts :
    resolve (.abs 0xFFFF#16) operands = .done ⟨0xFFFF#16, false⟩ operands ∧ isHalt operands 0xFFFF#16 = true ∧
    resolve (.absX 0xFFFE#16) operands = .done ⟨0xFFFF#16, false⟩ operands ∧
    resolve (.zp 0x00#8) operands = .done ⟨0x0000#16, false⟩ operands ∧
    isHalt { operands with haltAddrs := [0x0000#16] } 0x0000#16 = true := by decide

/-- PointerHalts, in the statements about (zp,X) and (zp),Y forms and JMP indirect. -/
theorem witness_pointer_halts :
    resolve (.indX 0xFE#8) { operands with haltAddrs := [0x00FF#16] } =
      .halt { operands with haltAddrs := [0x00FF#16], busLog := [.read 0x00FF#16] } ∧
    resolve (.indY 0xFF#8) { operands with haltAddrs := [0x0000#16] } =
      .halt { operands with haltAddrs := [0x0000#16], busLog := [.read 0x00FF#16, .read 0x0000#16] } ∧
    resolve (.ind 0xFFFF#16) operands = .halt { operands with busLog := [.read 0xFFFF#16] } := by decide

/-- JmpSetsTheProgramCounter: a pointer at the end of a page. -/
theorem witness_jmp_ind_resolves : resolve (.ind 0x00FF#16) operands =
    .done ⟨0x12F8#16, false⟩ { operands with busLog := [.read 0x00FF#16, .read 0x0000#16] } := by decide

/-- BranchesTestOneFlag: each condition both ways, the flags all clear and all set. -/
theorem witness_branch_conditions :
    noFlags.c = false ∧ noFlags.z = false ∧ noFlags.n = false ∧ noFlags.v = false ∧
    (unpack 0xFF#8).c = true ∧ (unpack 0xFF#8).z = true ∧ (unpack 0xFF#8).n = true ∧ (unpack 0xFF#8).v = true := by decide

/-- RtsPullsAndAddsOne, PullInstructionsLoadFromTheStack and RtiRestoresStatusThenProgramCounter with SP = 0xFE: the three pulls
cross the end of page 1; none halts, or the first, second or third does. -/
theorem witness_pulls :
    0x01FF#16 = stackAddr (0xFE#8 + 1#8) ∧ 0x0100#16 = stackAddr (0xFE#8 + 2#8) ∧ 0x0101#16 = stackAddr (0xFE#8 + 3#8) ∧
    isHalt State.reset 0x01FF#16 = false ∧ isHalt State.reset 0x0100#16 = false ∧ isHalt State.reset 0x0101#16 = false ∧
    isHalt { State.reset with haltAddrs := [0x01FF#16] } 0x01FF#16 = true ∧
    (isHalt { State.reset with haltAddrs := [0x0100#16] } 0x01FF#16 = false ∧
      isHalt { State.reset with haltAddrs := [0x0100#16] } 0x0100#16 = true) ∧
    (isHalt { State.reset with haltAddrs := [0x0101#16] } 0x01FF#16 = false ∧
      isHalt { State.reset with haltAddrs := [0x0101#16] } 0x0100#16 = false ∧
      isHalt { State.reset with haltAddrs := [0x0101#16] } 0x0101#16 = true) := by decide

/-- PushInstructionsStoreOnTheStack: both alternatives. -/
theorem witness_pushed_values :
    ((Instr.pha = .pha ∧ operands.a = operands.a) ∨ (Instr.pha = .php ∧ operands.a = pack operands.flags true true)) ∧
    ((Instr.php = .pha ∧ pack operands.flags true true = operands.a) ∨
      (Instr.php = .php ∧ pack operands.flags true true = pack operands.flags true true)) :=
  ⟨.inl ⟨rfl, rfl⟩, .inr ⟨rfl, rfl⟩⟩

/-- BrkTakesTheSoftwareInterrupt: no vector byte halts, the first does, the second does. -/
theorem witness_brk_vectors :
    isHalt (neverHalts operands) 0xFFFE#16 = false ∧ isHalt (neverHalts operands) 0xFFFF#16 = false ∧
    isHalt { operands with haltAddrs := [0xFFFE#16] } 0xFFFE#16 = true ∧ isHalt operands 0xFFFF#16 = true := by decide

/-- JsrThenRtsReturnsPastTheJsr: the state right after a JSR whose frame crosses the end of page 1. -/
theorem witness_jsr_then_rts :
    RamBus operands ∧ RamBus (after (exec (.jsr 0x0400#16) { operands with sp := 0x00#8 })) ∧
    exec (.jsr 0x0400#16) { operands with sp := 0x00#8 } = .next (after (exec (.jsr 0x0400#16) { operands with sp := 0x00#8 })) ∧
    isHalt (after (exec (.jsr 0x0400#16) { operands with sp := 0x00#8 })) (stackAddr 0x00#8) = false ∧
    isHalt (after (exec (.jsr 0x0400#16) { operands with sp := 0x00#8 })) (stackAddr (0x00#8 - 1#8)) = false :=
  ⟨by unfold RamBus; decide, by unfold RamBus; decide, rfl, by decide, by decide⟩

/-- BrkThenRtiResumesPastThePadding: the state right after a BRK whose frame crosses the end of page 1. -/
theorem witness_brk_then_rti :
    RamBus operands ∧ RamBus (after (exec .brk { neverHalts operands with sp := 0x01#8 })) ∧
    exec .brk { neverHalts operands with sp := 0x01#8 } = .next (after (exec .brk { neverHalts operands with sp := 0x01#8 })) ∧
    ∀ k : Byte, k.toNat ≤ 2 → isHalt (after (exec .brk { neverHalts operands with sp := 0x01#8 })) (stackAddr (0x01#8 - k)) = false :=
  ⟨by unfold RamBus; decide, by unfold RamBus; decide, rfl, fun _ _ => rfl⟩

/-- HaltedInstructionsLeaveTheStateOfTheTable, its clauses: a load, and a return that halts on its first and on its last pull. -/
theorem witness_halted_instructions :
    operands.run = .running ∧ (after (exec (.ldaAbs 0xFFFF#16) operands)).run = .halted ∧
    (after (exec .rts { operands with haltAddrs := [0x01FE#16] })).run = .halted ∧
    (after (exec .rti { operands with haltAddrs := [0x0100#16] })).run = .halted ∧ Instr.rts ≠ .brk := by decide

/-- OnlyTheFlagsOfTheTableChange and OnlyTheListedInstructionsWriteRegisters. -/
theorem witness_unlisted_flag_and_register :
    exec .tax operands = .next (after (exec .tax operands)) ∧ Flag.c ∉ flagsWritten .tax ∧ Reg.a ∉ registersWritten .tax :=
  ⟨rfl, by decide, by decide⟩

/-- MemoryChangesOnlyByTheBusWritesOfTheStep, EachStepOfARunCostsTwoToSevenOrEndsIt (both sides), EveryRunEnds. -/
theorem witness_running_steps :
    operands.run = .running ∧ step operands = .next (after (step operands)) ∧ irqAsserted.run = .running ∧
    (after (step irqAsserted)).run = .running ∧ (after (step { irqAsserted with budget := 0 })).run = .halted :=
  ⟨rfl, rfl, rfl, by decide, by decide⟩

/-- NoBusCallFollowsAHaltingRead: a step that ends in the read of 0xFFFF. -/
theorem witness_halting_read :
    (after (step (program [0xAD#8, 0xFF#8, 0xFF#8] []))).busLog =
      [.read 0x0200#16, .read 0x0201#16, .read 0x0202#16] ++ .read 0xFFFF#16 :: [] ∧
    isHalt (program [0xAD#8, 0xFF#8, 0xFF#8] []) 0xFFFF#16 = true ∧
    (program [0xAD#8, 0xFF#8, 0xFF#8] []).run = .running := by decide

/-- NmiPendingIsClearedOnlyByEntryOrReset: an edge, a latched NMI that is entered, and a reset. -/
theorem witness_nmi_latch :
    (irqAsserted.run = .running ∧ irqAsserted.cyc < irqAsserted.budget ∧ irqAsserted.nmiPending = false) ∧
    (after (step { irqAsserted with nmiPending := true })).nmiPending = false ∧
    (after (step { resetCalled with nmiPending := true })).nmiPending = false := by decide

/-- AStepRunsTheDecodedInstruction: the last instruction before the halt address. -/
theorem witness_quiet_step :
    Quiet (launched 0xFFFD#16 [(0xFFFD, 0xA9#8)]) ∧
    decode [busRead (launched 0xFFFD#16 [(0xFFFD, 0xA9#8)]) 0 0xFFFD#16, busRead (launched 0xFFFD#16 [(0xFFFD, 0xA9#8)]) 1 0xFFFE#16,
      busRead (launched 0xFFFD#16 [(0xFFFD, 0xA9#8)]) 2 0xFFFF#16] = .ok (.ldaImm 0x00#8, [0x00#8]) ∧
    ∀ k, k < (Instr.ldaImm 0x00#8).length → isHalt (launched 0xFFFD#16 [(0xFFFD, 0xA9#8)]) (0xFFFD#16 + BitVec.ofNat 16 k) = false :=
  ⟨⟨rfl, by decide, rfl, rfl, .inl rfl⟩, rfl, by decide⟩

/-- AHaltedFetchLeavesPcAtTheByte: the halt on the opcode, on the first operand byte (immediate and not) and on the second. -/
theorem witness_halted_fetch :
    (Quiet (launched 0xFFFF#16 []) ∧ isHalt (launched 0xFFFF#16 []) 0xFFFF#16 = true) ∧
    (isHalt (launched 0xFFFE#16 [(0xFFFE, 0xA9#8)]) 0xFFFE#16 = false ∧
      opcodeMode (busRead (launched 0xFFFE#16 [(0xFFFE, 0xA9#8)]) 0 0xFFFE#16) = some .immediate) ∧
    (opcodeMode (busRead (launched 0xFFFE#16 [(0xFFFE, 0xAD#8)]) 0 0xFFFE#16) = some .absolute ∧ 1 ≤ Mode.absolute.operandBytes ∧
      isHalt (launched 0xFFFE#16 [(0xFFFE, 0xAD#8)]) (0xFFFE#16 + 1#16) = true) ∧
    (opcodeMode (busRead (launched 0xFFFD#16 [(0xFFFD, 0xAD#8)]) 0 0xFFFD#16) = some .absolute ∧ Mode.absolute.operandBytes = 2 ∧
      isHalt (launched 0xFFFD#16 [(0xFFFD, 0xAD#8)]) 0xFFFD#16 = false ∧
      isHalt (launched 0xFFFD#16 [(0xFFFD, 0xAD#8)]) (0xFFFD#16 + 1#16) = false ∧
      isHalt (launched 0xFFFD#16 [(0xFFFD, 0xAD#8)]) (0xFFFD#16 + 2#16) = true) := by
  unfold Quiet
  decide

/-- AnIllegalOpcodeStopsTheRun, with the IRQ asserted but masked. -/
theorem witness_illegal_opcode :
    Quiet { program [0xFF#8] [] with irqLine := [true] } ∧ isHalt (program [0xFF#8] []) 0x0200#16 = false ∧
    busRead (program [0xFF#8] []) 0 0x0200#16 ∈ illegalOpcodes :=
  ⟨⟨rfl, by decide, rfl, rfl, .inr rfl⟩, by decide, by decide⟩

/-- AnExhaustedBudgetStopsBeforeAnythingElse, at equality and above. -/
theorem witness_spent_budget :
    operands.run = .running ∧ ({ operands with budget := 5, cyc := 5 } : State).budget ≤ 5 ∧
    ({ operands with budget := 5, cyc := 6 } : State).budget ≤ 6 := by decide

/-- AnNmiIsTakenBeforeAnIrqAndWhateverIIs: latched or arriving with I = 1 and 0, the vector halting or not. -/
theorem witness_nmi :
    (irqAsserted.run = .running ∧ irqAsserted.cyc < irqAsserted.budget) ∧
    ({ irqAsserted with nmiPending := true } : State).nmiPending = true ∧
    ({ irqAsserted with nmiEdge := [true], flags := resetFlags } : State).nmiEdge.headD false = true ∧
    isHalt irqAsserted 0xFFFA#16 = false ∧ isHalt irqAsserted 0xFFFB#16 = false ∧
    isHalt { irqAsserted with haltAddrs := [0xFFFB#16] } 0xFFFB#16 = true := by decide

/-- AnIrqIsTakenOnlyWithIClear: taken, its vector halting or not; masked; not asserted. -/
theorem witness_irq :
    (irqAsserted.run = .running ∧ irqAsserted.cyc < irqAsserted.budget ∧ irqAsserted.nmiPending = false ∧
      irqAsserted.nmiEdge.headD false = false ∧ irqAsserted.irqLine.headD false = true ∧ irqAsserted.flags.i = false) ∧
    isHalt irqAsserted 0xFFFE#16 = false ∧ isHalt irqAsserted 0xFFFF#16 = false ∧
    isHalt { irqAsserted with haltAddrs := [0xFFFF#16] } 0xFFFF#16 = true ∧
    ({ irqAsserted with flags := resetFlags } : State).flags.i = true ∧
    ({ irqAsserted with irqLine := [] } : State).irqLine.headD false = false := by decide

/-- ResetLoadsTheVectorAndTheListedState: both vector bytes answer, the first halts, the second halts. -/
theorem witness_reset :
    (resetCalled.run = .halted ∧ resetCalled.calls = .reset :: []) ∧
    (isHalt resetCalled 0xFFFC#16 = false ∧ isHalt resetCalled 0xFFFD#16 = false) ∧
    isHalt { resetCalled with haltAddrs := [0xFFFC#16] } 0xFFFC#16 = true ∧
    (isHalt { resetCalled with haltAddrs := [0xFFFD#16] } 0xFFFC#16 = false ∧
      isHalt { resetCalled with haltAddrs := [0xFFFD#16] } 0xFFFD#16 = true) := by decide

/-- TheCallerActsOnlyOnAHaltedCore: a running core, an idle core, and each operation pending. -/
theorem witness_caller :
    (operands.run = .running ∧ (after (step operands)).calls = []) ∧ (State.reset.run = .halted ∧ State.reset.calls = []) ∧
    [Call.run 1000 0 [true] [false, true], .setPc 0xFFFF#16, .setReg .sp 0x00#8, .setFlag .d true].all (fun c =>
      decide (({ State.reset with calls := [c] } : State).calls = c :: [] ∧ ({ State.reset with calls := [c] } : State).run = .halted)) =
    true := by decide

/-- EveryStepKeepsTheInvariant: a running state with bytes in memory. -/
theorem witness_invariant : operands.Inv ∧ step operands = .next (after (step operands)) :=
  ⟨⟨by decide, fun _ => rfl, fun _ _ h => by cases h⟩, rfl⟩

end Sys2Proof.Tests
end

section
/-! PROOFS, 00_scope.md: one lemma per kind of bus service for what a call answers and stores, and the statement about the
bus assembled from them. -/

namespace Sys2Proof.Machine

theorem busRead_of_ram {s : State} {k : Nat} (h : serviceAt s k = .ram) (a : Addr) : busRead s k a = readByte s a := by
  rw [busRead, h]

theorem busRead_of_caller {s : State} {k : Nat} {w : Byte} (h : serviceAt s k = .caller w) (a : Addr) :
    busRead s k a = w := by
  rw [busRead, h]

theorem storedByte_of_ram {s : State} {k : Nat} (h : serviceAt s k = .ram) (a : Addr) (v : Byte) :
    storedByte s k a v = v := by
  rw [storedByte, h]

theorem busWrite_of_caller {s : State} {w : Byte} (h : serviceAt s 0 = .caller w) (a : Addr) (v : Byte) :
    busWrite s a v = s.mem := by
  rw [busWrite, h]

theorem serviceAt_zero_of_bus_cons {s : State} {c : BusService} {bus : List BusService} (h : s.bus = c :: bus) :
    serviceAt s 0 = c := by
  rw [serviceAt, h, List.getD_cons_zero]

/-- A state whose bus is what some calls left of a default bus has the default bus too (R69). -/
theorem RamBus.of_drop {s t : State} {n : Nat} (h : RamBus s) (hb : t.bus = s.bus.drop n) : RamBus t :=
  fun b hm => h b (List.mem_of_mem_drop (hb ▸ hm))

/-- Settles O5, from what a read does at each kind of address and which service answers the call. -/
theorem busReadsAndWrites : Obligations.BusReadsAndWrites := by
  intro s a v
  refine ⟨memRead_halt, memRead_done, rfl, fun b => readByte_memWrite s a b v, fun hram => ?_, fun w bus hbus => ?_⟩
  · -- the default bus
    have hservice : serviceAt s 0 = .ram := serviceAt_of_ramBus hram 0
    exact ⟨busRead_of_ram hservice a, storedByte_of_ram hservice a v, hram.of_drop (memWrite_bus s a v)⟩
  · -- a call the caller's bus serves itself
    have hservice : serviceAt s 0 = .caller w := serviceAt_zero_of_bus_cons hbus
    exact ⟨busRead_of_caller hservice a, (memWrite_mem s a v).trans (busWrite_of_caller hservice a v)⟩

end Sys2Proof.Machine
end

section
/-! PROOFS, 20_memory.md: SP as a number after a push and before a pull's read, and the statement about the stack assembled
from the laws of `push` and `pull`. -/

namespace Sys2Proof.Machine

/-- SP after a push, as a number (R60). -/
theorem push_sp_toNat (v : Byte) (s : State) : (push v s).sp.toNat = (s.sp.toNat + 255) % 256 := by
  rw [push_sp, BitVec.toNat_sub, Nat.add_comm]
  rfl

/-- The byte one above `p` modulo 256 is `p + 1` (R61). -/
theorem eq_add_one_of_toNat_eq {p q : Byte} (h : q.toNat = (p.toNat + 1) % 256) : q = p + 1#8 :=
  BitVec.eq_of_toNat_eq (h.trans (BitVec.toNat_add p 1#8).symm)

/-- Settles O7, from what a push leaves of each field and the two ways a pull can end. -/
theorem pushAndPullMoveTheStackPointerInPageOne : Obligations.PushAndPullMoveTheStackPointerInPageOne := by
  intro s v
  refine ⟨stackAddr_toNat s.sp, rfl, push_sp_toNat v s, fun a => ?_, fun sp' hsp => ?_⟩
  · -- MEM after a push: at the stack address of the old SP and elsewhere
    rw [readByte_push]
    split
    · next h => rw [h]
    · rfl
  · -- the pull reads at the raised SP, and that read answers or halts
    obtain rfl : sp' = s.sp + 1#8 := eq_add_one_of_toNat_eq hsp
    exact ⟨pull_done, pull_halt⟩

end Sys2Proof.Machine
end

section
/-! PROOFS, 30_encoding.md: which flags each shape of instruction keeps, from single flag writes up to `exec`, and the statement about
the flags column assembled from them. -/

namespace Sys2Proof.Machine

open Sys2Proof.Claim

/-- Writing one flag leaves every other one. -/
theorem Flags.get_set_of_ne {j k : Flag} (h : j ≠ k) (f : Flags) (v : Bool) : (f.set k v).get j = f.get j := by
  cases k <;> cases j <;> simp_all [Flags.set, Flags.get]

/-- `g` has the value that `f` has in every flag not listed. -/
def SameFlagsOff (l : List Flag) (f g : Flags) : Prop := ∀ k, k ∉ l → g.get k = f.get k

theorem SameFlagsOff.refl (l : List Flag) (f : Flags) : SameFlagsOff l f f := fun _ _ => rfl

theorem SameFlagsOff.set {l : List Flag} {f g : Flags} (h : SameFlagsOff l f g) (k : Flag) (v : Bool)
    (hk : k ∈ l := by decide) : SameFlagsOff l f (g.set k v) := fun j hj =>
  (Flags.get_set_of_ne (ne_of_mem_of_not_mem hk hj).symm g v).trans (h j hj)

/-- R253 and R271 list every flag. -/
theorem sameFlagsOff_all (f g : Flags) : SameFlagsOff [.n, .v, .b, .d, .i, .z, .c] f g := fun k hk =>
  absurd (by cases k <;> decide) hk

/-- What the flag instructions do (R254 to R260). -/
theorem set_sameFlagsOff (k : Flag) (v : Bool) (f : Flags) : SameFlagsOff [k] f (f.set k v) :=
  (SameFlagsOff.refl [k] f).set k v (List.mem_singleton_self k)

theorem setZN_sameFlagsOff (m : Byte) (f : Flags) : SameFlagsOff [.n, .z] f (setZN m f) :=
  ((SameFlagsOff.refl [.n, .z] f).set .z (m == 0#8)).set .n (m.getLsbD 7)

/-- What the shifts, the rotates and COMPARE do with the flags: C, then Z and N of the result (R190 to R193, R200). -/
theorem setZN_carry_sameFlagsOff (m : Byte) (v : Bool) (f : Flags) :
    SameFlagsOff [.n, .z, .c] f (setZN m { f with c := v }) :=
  (((SameFlagsOff.refl [.n, .z, .c] f).set .c v).set .z (m == 0#8)).set .n (m.getLsbD 7)

theorem withSum_sameFlagsOff (o : AluSum) (f : Flags) : SameFlagsOff [.n, .v, .z, .c] f (withSum o f) :=
  ((((SameFlagsOff.refl [.n, .v, .z, .c] f).set .n o.n).set .v o.v).set .z o.z).set .c o.c

theorem bitTest_sameFlagsOff (a m : Byte) (f : Flags) : SameFlagsOff [.n, .v, .z] f (bitTest a m f) :=
  (((SameFlagsOff.refl [.n, .v, .z] f).set .z ((a &&& m) == 0#8)).set .n (m.getLsbD 7)).set .v (m.getLsbD 6)

/-- The flags that a BRK writes, whether or not its vector read halts (R270). -/
theorem set_b_i_sameFlagsOff (f : Flags) : SameFlagsOff [.b, .i] f { f with b := true, i := true } :=
  ((SameFlagsOff.refl [.b, .i] f).set .b true).set .i true

/-- The outcome `o` of an instruction run in `s` has the flags of `s` in every flag not listed. -/
def KeepsFlagsOff (l : List Flag) (s : State) (o : Host.Outcome State Fault Refusal) : Prop :=
  ∀ t, o = .next t → SameFlagsOff l s.flags t.flags

theorem next_keepsFlagsOff {l : List Flag} {s t : State} (h : SameFlagsOff l s.flags t.flags) :
    KeepsFlagsOff l s (.next t) := by
  intro u e
  cases e
  exact h

section Shapes

variable {l : List Flag} {s : State}

theorem modifyAcc_keepsFlagsOff {base : Nat} {f : Byte → Flags → Byte × Flags}
    (h : ∀ m g, SameFlagsOff l g (f m g).2) : KeepsFlagsOff l s (modifyAcc base f s) :=
  next_keepsFlagsOff (h s.a s.flags)

theorem readOperand_keepsFlagsOff {base : Nat} {x : Extra} {o : Operand} {f : Byte → State → State}
    (h : ∀ m u, SameFlagsOff l u.flags (f m u).flags) : KeepsFlagsOff l s (readOperand base x o f s) := by
  rcases readOperand_cases base x o f s with ⟨r, reads, _, _, e⟩ | ⟨reads, a, _, e⟩
  · rw [e]
    exact next_keepsFlagsOff (h _ (withReads s (reads ++ [r.ea])))
  · rw [e]
    exact next_keepsFlagsOff (.refl l s.flags)

theorem storeOperand_keepsFlagsOff {base : Nat} {o : Operand} {v : Byte} :
    KeepsFlagsOff l s (storeOperand base o v s) := by
  rcases storeOperand_cases base o v s with ⟨r, reads, _, e⟩ | ⟨reads, a, _, e⟩ <;>
  · rw [e]
    exact next_keepsFlagsOff (.refl l s.flags)

theorem modifyOperand_keepsFlagsOff {base : Nat} {o : Operand} {f : Byte → Flags → Byte × Flags}
    (h : ∀ m g, SameFlagsOff l g (f m g).2) : KeepsFlagsOff l s (modifyOperand base o f s) := by
  rcases modifyOperand_cases base o f s with ⟨r, reads, _, _, e⟩ | ⟨reads, a, _, e⟩
  · rw [e]
    exact next_keepsFlagsOff (h _ s.flags)
  · rw [e]
    exact next_keepsFlagsOff (.refl l s.flags)

theorem branchIf_keepsFlagsOff {base : Nat} {cond : Bool} {off : Byte} :
    KeepsFlagsOff l s (branchIf base cond off s) := by
  rw [branchIf_eq]
  cases cond <;> exact next_keepsFlagsOff (.refl l s.flags)

theorem jumpTo_keepsFlagsOff {base : Nat} {o : Operand} : KeepsFlagsOff l s (jumpTo base o s) := by
  rcases jumpTo_cases base o s with ⟨r, reads, _, e⟩ | ⟨reads, a, _, e⟩ <;>
  · rw [e]
    exact next_keepsFlagsOff (.refl l s.flags)

/-- A pull keeps the flags, also one that halts; what comes after it decides. -/
theorem pull_andThen_sameFlagsOff {f : Byte → State → Access Nat} {g : Flags} (hs : SameFlagsOff l g s.flags)
    (h : ∀ v t, t.flags = s.flags → SameFlagsOff l g (settle (f v t)).flags) :
    SameFlagsOff l g (settle ((pull s).andThen f)).flags := by
  rcases pull_cases s with ⟨_, e⟩ | ⟨_, e⟩
  · rw [e, andThen_done]
    exact h _ _ rfl
  · rw [e, andThen_halt]
    exact hs

end Shapes

theorem execPla_keepsFlagsOff (s : State) : KeepsFlagsOff [.n, .z] s (execPla s) :=
  next_keepsFlagsOff <| pull_andThen_sameFlagsOff (.refl _ _) fun v t ht => by
    rw [settle_done, ← ht]
    exact setZN_sameFlagsOff v t.flags

theorem execJsr_keepsFlagsOff (w : Addr) (s : State) : KeepsFlagsOff [] s (execJsr w s) :=
  next_keepsFlagsOff fun k _ => by
    simp only [settle_done, push_flags]

theorem execRts_keepsFlagsOff (s : State) : KeepsFlagsOff [] s (execRts s) :=
  next_keepsFlagsOff <| pull_andThen_sameFlagsOff (.refl _ _) fun _ t ht => by
    rw [← ht]
    refine pull_andThen_sameFlagsOff (.refl _ _) fun _ u hu => ?_
    rw [settle_done, ← hu]
    exact .refl _ _

theorem execBrk_keepsFlagsOff (s : State) : KeepsFlagsOff [.b, .i] s (execBrk s) := by
  refine next_keepsFlagsOff ?_
  rcases enter_cases irqVector true { s with pc := s.pc + 1#16, flags := { s.flags with b := true } } with
    ⟨_, _, e⟩ | ⟨_, e⟩ | ⟨_, _, e⟩ <;>
  · rw [e]
    exact set_b_i_sameFlagsOff s.flags

/-- The kept half of R88, row by row: the rows of one shape and one flag primitive have one argument. -/
theorem exec_keepsFlagsOff (i : Instr) (s : State) : KeepsFlagsOff (flagsWritten i) s (exec i s) := by
  cases i with
  | ldaImm | ldxImm | ldyImm | andImm | oraImm | eorImm | tax | tay | txa | tya | tsx | inx | iny | dex | dey =>
    exact next_keepsFlagsOff (setZN_sameFlagsOff _ _)
  | ldaZp | ldaZpX | ldaAbs | ldaAbsX | ldaAbsY | ldaIndX | ldaIndY | ldxZp | ldxZpY | ldxAbs | ldxAbsY
  | ldyZp | ldyZpX | ldyAbs | ldyAbsX | andZp | andZpX | andAbs | andAbsX | andAbsY | andIndX | andIndY
  | oraZp | oraZpX | oraAbs | oraAbsX | oraAbsY | oraIndX | oraIndY
  | eorZp | eorZpX | eorAbs | eorAbsX | eorAbsY | eorIndX | eorIndY =>
    exact readOperand_keepsFlagsOff fun _ _ => setZN_sameFlagsOff _ _
  | incZp | incZpX | incAbs | incAbsX | decZp | decZpX | decAbs | decAbsX =>
    exact modifyOperand_keepsFlagsOff fun _ _ => setZN_sameFlagsOff _ _
  | pla => exact execPla_keepsFlagsOff s
  | staZp | staZpX | staAbs | staAbsX | staAbsY | staIndX | staIndY | stxZp | stxZpY | stxAbs | styZp | styZpX
  | styAbs => exact storeOperand_keepsFlagsOff
  | bcc | bcs | beq | bne | bmi | bpl | bvc | bvs => exact branchIf_keepsFlagsOff
  | jmpAbs | jmpInd => exact jumpTo_keepsFlagsOff
  | jsr w => exact execJsr_keepsFlagsOff w s
  | txs | pha | php | nop =>
    exact next_keepsFlagsOff (.refl _ _)
  | rts => exact execRts_keepsFlagsOff s
  | adcImm | sbcImm =>
    exact next_keepsFlagsOff (withSum_sameFlagsOff _ _)
  | adcZp | adcZpX | adcAbs | adcAbsX | adcAbsY | adcIndX | adcIndY
  | sbcZp | sbcZpX | sbcAbs | sbcAbsX | sbcAbsY | sbcIndX | sbcIndY =>
    exact readOperand_keepsFlagsOff fun _ _ => withSum_sameFlagsOff _ _
  | bitZp | bitAbs => exact readOperand_keepsFlagsOff fun _ _ => bitTest_sameFlagsOff _ _ _
  | cmpImm | cpxImm | cpyImm =>
    exact next_keepsFlagsOff (setZN_carry_sameFlagsOff _ _ _)
  | cmpZp | cmpZpX | cmpAbs | cmpAbsX | cmpAbsY | cmpIndX | cmpIndY | cpxZp | cpxAbs | cpyZp | cpyAbs =>
    exact readOperand_keepsFlagsOff fun _ _ => setZN_carry_sameFlagsOff _ _ _
  | aslAcc | lsrAcc | rolAcc | rorAcc => exact modifyAcc_keepsFlagsOff fun _ _ => setZN_carry_sameFlagsOff _ _ _
  | aslZp | aslZpX | aslAbs | aslAbsX | lsrZp | lsrZpX | lsrAbs | lsrAbsX
  | rolZp | rolZpX | rolAbs | rolAbsX | rorZp | rorZpX | rorAbs | rorAbsX =>
    exact modifyOperand_keepsFlagsOff fun _ _ => setZN_carry_sameFlagsOff _ _ _
  | clc | sec | cli | sei | cld | sed | clv =>
    exact next_keepsFlagsOff (set_sameFlagsOff _ _ _)
  | plp | rti => exact next_keepsFlagsOff (sameFlagsOff_all _ _)
  | brk => exact execBrk_keepsFlagsOff s

/-- Settles O43, from what each row of the opcode table keeps. -/
theorem onlyTheFlagsOfTheTableChange : Obligations.OnlyTheFlagsOfTheTableChange :=
  fun i s t f h hf => exec_keepsFlagsOff i s t h f hf

end Sys2Proof.Machine
end

section
/-! PROOFS, 40_execution.md: the sums of the addressing modes as numbers, the resolvers that read a pointer as two bus reads, and the
statements about the flag unit and the addressing modes assembled from them. -/

namespace Sys2Proof.Machine

open Sys2Proof.Claim

/-- Bit 7 of a byte as a comparison: what N says of a result (R120). -/
theorem getLsbD_seven (v : Byte) : v.getLsbD 7 = decide (128 ≤ v.toNat) :=
  (BitVec.msb_eq_getLsbD_last v).symm.trans (BitVec.msb_eq_decide v)

/-- Settles O8, from the value of bit 7. -/
theorem setZNSetsZeroAndNegativeOnly : Obligations.SetZNSetsZeroAndNegativeOnly := by
  intro v f
  refine ⟨beq_iff_eq, ?_, rfl⟩
  rw [setZN_n, getLsbD_seven, decide_eq_true_iff]

/-- A byte sum placed in page 0 wraps inside it (R108, R109, R114). -/
theorem zext16_add_toNat (b i : Byte) : (zext16 (b + i)).toNat = (b.toNat + i.toNat) % 256 := by
  rw [zext16_toNat, BitVec.toNat_add]

/-- Two high bytes differ exactly if the pages differ (R111, R112, R116). -/
theorem hi_bne_hi (a b : Addr) : (hi a != hi b) = decide (a.toNat / 256 ≠ b.toNat / 256) := by
  rw [Bool.eq_iff_iff, bne_iff_ne, decide_eq_true_iff, ← hi_toNat, ← hi_toNat, ne_eq, ne_eq, BitVec.toNat_inj]

theorem indexed_ea_toNat (base : Addr) (i : Byte) : (indexed base i).ea.toNat = (base.toNat + i.toNat) % 65536 := by
  rw [indexed, BitVec.toNat_add, zext16_toNat]

theorem indexed_crossed (base : Addr) (i : Byte) :
    (indexed base i).crossed = decide ((indexed base i).ea.toNat / 256 ≠ base.toNat / 256) :=
  hi_bne_hi (indexed base i).ea base

/-- Settles O10: no mode makes a bus call, and the sums wrap inside page 0. -/
theorem zeroPageModesStayInPageZero : Obligations.ZeroPageModesStayInPageZero := fun b s =>
  ⟨⟨_, rfl, zext16_toNat b, rfl⟩, ⟨_, rfl, zext16_add_toNat b s.x, rfl⟩, ⟨_, rfl, zext16_add_toNat b s.y, rfl⟩⟩

/-- Settles O11, from what `indexed` answers. -/
theorem absoluteModesWrapAtSixteenBits : Obligations.AbsoluteModesWrapAtSixteenBits := fun w s =>
  ⟨rfl, ⟨_, rfl, indexed_ea_toNat w s.x, indexed_crossed w s.x⟩, ⟨_, rfl, indexed_ea_toNat w s.y, indexed_crossed w s.y⟩⟩

/-- Adding a sign-extended byte is adding its two's-complement value modulo 65536 (R116). -/
theorem add_sext16_toNat (a : Addr) (off : Byte) :
    ((a + sext16 off).toNat : Int) = ((a.toNat : Int) + off.toInt) % 65536 := by
  have hoff : ((sext16 off).toNat : Int) = off.toInt % 65536 := by
    rw [sext16, BitVec.signExtend, BitVec.toNat_ofInt]
    omega
  rw [BitVec.toNat_add]
  omega

/-- Settles O13, from the sum with the sign-extended offset. -/
theorem relativeTargetIsNextInstructionPlusSignedOffset :
    Obligations.RelativeTargetIsNextInstructionPlusSignedOffset := fun off s =>
  ⟨_, rfl, add_sext16_toNat s.pc off, hi_bne_hi (s.pc + sext16 off) s.pc⟩

/-- The second pointer byte of JMP indirect, by the masks of R113: the next address within the page of `w`. -/
theorem nextInPage_toNat (w : Addr) :
    ((w &&& 0xFF00#16) ||| ((w + 1#16) &&& 0x00FF#16)).toNat = w.toNat / 256 * 256 + (w.toNat + 1) % 256 := by
  have hpage : (w &&& 0xFF00#16).toNat = (w.toNat / 256) <<< 8 := by
    have hmask : w &&& 0xFF00#16 = w >>> 8 <<< 8 := (BitVec.shiftLeft_ushiftRight (x := w) (n := 8)).symm
    have := w.isLt
    rw [hmask, BitVec.toNat_shiftLeft, BitVec.toNat_ushiftRight, Nat.shiftRight_eq_div_pow, Nat.shiftLeft_eq]
    omega
  have hoffset : ((w + 1#16) &&& 0x00FF#16).toNat = (w.toNat + 1) % 256 := by
    have hmask : ((w + 1#16) &&& 0x00FF#16).toNat = (w + 1#16).toNat % 2 ^ 8 := by
      rw [BitVec.toNat_and]
      exact Nat.and_two_pow_sub_one_eq_mod _ 8
    rw [hmask, BitVec.toNat_add]
    exact Nat.mod_mod_of_dvd _ (by decide)
  rw [BitVec.toNat_or, hpage, hoffset, ← Nat.shiftLeft_add_eq_or_of_lt (Nat.mod_lt _ (by decide)), Nat.shiftLeft_eq]

/-- A resolver that reads at `p` and then at `q` and answers `f` of the two bytes is a pointer read of what `f` gives. -/
theorem pointerRead_of_two_reads {o : Operand} {s : State} {p q : Addr} {result : Nat → Resolved → Prop}
    (f : Byte → Byte → State → Resolved)
    (hresolve : resolve o s = (memRead p s).andThen fun l t => (memRead q t).andThen fun h u => .done (f l h u) u)
    (hresult : ∀ l h, result (a16 l h).toNat (f l h (withReads s [p, q]))) : PointerRead o s p q result := by
  rw [PointerRead, hresolve]
  rcases two_reads p q f s with ⟨hp, hq, e⟩ | ⟨hp, e⟩ | ⟨hp, hq, e⟩ <;> rw [e]
  · have h := hresult (busRead s 0 p) (busRead s 1 q)
    rw [a16_toNat] at h
    simp only [hp, hq]
    exact ⟨fun _ _ => ⟨_, rfl, h⟩, nofun, nofun⟩
  · simp only [hp]
    exact ⟨nofun, fun _ => rfl, nofun⟩
  · simp only [hp, hq]
    refine ⟨nofun, nofun, fun _ _ => ?_⟩
    simp [logCall, withReads]

/-- Settles O12, from the two addresses that each mode reads and the value it makes of the bytes. -/
theorem indirectModesReadTheirPointersWithTheirWraps : Obligations.IndirectModesReadTheirPointersWithTheirWraps := by
  intro s w p q b
  refine ⟨fun hq => ?_, fun hp hq => ?_, fun hp hq => ?_⟩
  · -- JMP indirect: the high byte from the page of the low byte
    obtain rfl := BitVec.eq_of_toNat_eq (hq.trans (nextInPage_toNat w).symm)
    exact pointerRead_of_two_reads (fun l h _ => ⟨a16 l h, false⟩) rfl fun _ _ => ⟨rfl, rfl⟩
  · -- (zp,X): both bytes from page 0, the second one above the indexed operand
    obtain rfl := BitVec.eq_of_toNat_eq (hp.trans (zext16_add_toNat b s.x).symm)
    have hnext : (zext16 (b + s.x + 1#8)).toNat = (b.toNat + s.x.toNat + 1) % 256 := by
      rw [zext16_add_toNat, BitVec.toNat_add, Nat.mod_add_mod]
      rfl
    obtain rfl := BitVec.eq_of_toNat_eq (hq.trans hnext.symm)
    exact pointerRead_of_two_reads (fun l h _ => ⟨a16 l h, false⟩) rfl fun _ _ => ⟨rfl, rfl⟩
  · -- (zp),Y: both bytes from page 0, then Y in 16 bits
    obtain rfl := BitVec.eq_of_toNat_eq (hp.trans (zext16_toNat b).symm)
    obtain rfl := BitVec.eq_of_toNat_eq (hq.trans (zext16_add_toNat b 1#8).symm)
    exact pointerRead_of_two_reads (fun l h u => indexed (a16 l h) u.y) rfl fun l h =>
      ⟨indexed_ea_toNat (a16 l h) s.y, indexed_crossed (a16 l h) s.y⟩

end Sys2Proof.Machine
end

section
/-! PROOFS, 41_load_store_transfer.md: one lemma per shape of instruction (immediate, implied, read, store, halted pointer), and
the statements about loads, stores and transfers assembled from them. -/

namespace Sys2Proof.Machine

open Sys2Proof.Claim

/-- The flag unit's Z and N are those that the statements spell over the value of the byte (R120). -/
theorem setZN_eq_zn (v : Byte) (f : Flags) : setZN v f = zn v f := by
  rw [setZN, zn, getLsbD_seven]
  rfl

/-- `f` neither reads nor writes the cycle counter, the bus and its log: the effect of an operand byte once it has been read. -/
def RegisterEffect (f : State → State) : Prop :=
  ∀ s cyc bus busLog, f { s with cyc := cyc, bus := bus, busLog := busLog } =
    { f s with cyc := cyc, bus := bus, busLog := busLog }

theorem RegisterEffect.cyc_eq {f : State → State} (hf : RegisterEffect f) (s : State) : (f s).cyc = s.cyc :=
  (congrArg State.cyc (hf s s.cyc s.bus s.busLog) :)

theorem RegisterEffect.withReads_eq {f : State → State} (hf : RegisterEffect f) (s : State) (reads : List Addr) :
    f (withReads s reads) =
      { f s with cyc := s.cyc, bus := s.bus.drop reads.length, busLog := s.busLog ++ reads.map BusCall.read } :=
  hf s s.cyc (s.bus.drop reads.length) (s.busLog ++ reads.map BusCall.read)

theorem internal_eq {f : State → State} (hf : RegisterEffect f) (base : Nat) (s : State) :
    internal base f s = .next { f s with cyc := s.cyc + base } := by
  rw [internal, complete, settle_done, hf.cyc_eq]

/-- The extra-cycle class of a read that pays for a crossed page, or does not (R119). -/
def pageExtra : Bool → Extra
  | true => .page
  | false => .none

theorem cost_pageExtra (base : Nat) (paysPage crossed : Bool) :
    cost base (pageExtra paysPage) crossed false = base + if paysPage && crossed then 1 else 0 := by
  cases paysPage <;> cases crossed <;> rfl

section Shapes

variable {i : Instr} {opcode : Byte} {base : Nat} {o : Operand}

theorem immForm_of_internal {f : State → State} (hf : RegisterEffect f) (hcode : (encode i).head? = some opcode)
    (hexec : exec i = internal 2 f) : ImmForm i opcode f :=
  ⟨hcode, fun s => by rw [hexec, internal_eq hf]⟩

theorem impliedForm_of_internal {f : State → State} (hf : RegisterEffect f) (hcode : encode i = [opcode])
    (hexec : exec i = internal base f) : ImpliedForm i opcode base f :=
  ⟨hcode, fun s => by rw [hexec, internal_eq hf]⟩

/-- Whatever follows the resolver, a halting pointer byte only stops the run (R122). -/
theorem pointerHalts_of_resolve {k : State → Resolved → State → Access Nat}
    (hexec : ∀ s, exec i s = complete ((resolve o s).andThen (k s))) : PointerHalts i o := by
  intro s t hresolve
  obtain ⟨reads, a, _, rfl⟩ := resolve_halt_eq hresolve
  rw [hexec, hresolve]
  rfl

/-- A read past the resolver's pointer bytes: it answers and the effect follows, or it halts (R117, R122). -/
theorem readForm_of_readOperand {paysPage : Bool} {f : Byte → State → State} (hf : ∀ m, RegisterEffect (f m))
    (hcode : (encode i).head? = some opcode) (hexec : exec i = readOperand base (pageExtra paysPage) o f) :
    ReadForm i opcode o base paysPage f := by
  refine ⟨hcode, fun s t r hresolve => ?_⟩
  obtain ⟨reads, rfl⟩ := resolve_done_eq hresolve
  rw [hexec, readOperand, hresolve, andThen_done]
  constructor
  · intro hanswers
    rw [memRead_done ((withReads_isHalt s reads r.ea).trans hanswers), andThen_done, complete, settle_done,
      withReads_withReads, (hf _).withReads_eq, cost_pageExtra, Nat.add_assoc]
    simp
  · intro hhalts
    rw [memRead_halt ((withReads_isHalt s reads r.ea).trans hhalts)]
    rfl

/-- A store past the resolver's pointer bytes is one bus write (R52, R143 to R145). -/
theorem storeForm_of_storeOperand {value : State → Byte} (hcode : (encode i).head? = some opcode)
    (hexec : ∀ s, exec i s = storeOperand base o (value s) s) : StoreForm i opcode o base value := by
  refine ⟨hcode, fun s t r hresolve => ?_⟩
  obtain ⟨reads, rfl⟩ := resolve_done_eq hresolve
  have hmem := readByte_memWrite (withReads s reads) r.ea (v := value s)
  rw [hexec, storeOperand, hresolve]
  exact ⟨_, rfl, rfl, (hmem r.ea).trans (if_pos rfl), fun a ha => (hmem a).trans (if_neg ha)⟩

end Shapes

/-- The eight forms of an accumulator operation with the effect `f` of its operand byte (R85). -/
theorem eightForms_of_operation {imm zp zpX indX indY : Byte × (Byte → Instr)} {abs absX absY : Byte × (Addr → Instr)}
    {f : Byte → State → State} (hf : ∀ m, RegisterEffect (f m))
    (hImm : ∀ v, (encode (imm.2 v)).head? = some imm.1 ∧ exec (imm.2 v) = internal 2 (f v))
    (hZp : ∀ b, (encode (zp.2 b)).head? = some zp.1 ∧ exec (zp.2 b) = readOperand 3 .none (.zp b) f)
    (hZpX : ∀ b, (encode (zpX.2 b)).head? = some zpX.1 ∧ exec (zpX.2 b) = readOperand 4 .none (.zpX b) f)
    (hAbs : ∀ w, (encode (abs.2 w)).head? = some abs.1 ∧ exec (abs.2 w) = readOperand 4 .none (.abs w) f)
    (hAbsX : ∀ w, (encode (absX.2 w)).head? = some absX.1 ∧ exec (absX.2 w) = readOperand 4 .page (.absX w) f)
    (hAbsY : ∀ w, (encode (absY.2 w)).head? = some absY.1 ∧ exec (absY.2 w) = readOperand 4 .page (.absY w) f)
    (hIndX : ∀ b, (encode (indX.2 b)).head? = some indX.1 ∧ exec (indX.2 b) = readOperand 6 .none (.indX b) f)
    (hIndY : ∀ b, (encode (indY.2 b)).head? = some indY.1 ∧ exec (indY.2 b) = readOperand 5 .page (.indY b) f) :
    EightForms imm zp zpX indX indY abs absX absY f :=
  ⟨fun v => immForm_of_internal (hf v) (hImm v).1 (hImm v).2,
   fun b => readForm_of_readOperand hf (hZp b).1 (hZp b).2,
   fun b => readForm_of_readOperand hf (hZpX b).1 (hZpX b).2,
   fun w => readForm_of_readOperand hf (hAbs w).1 (hAbs w).2,
   fun w => readForm_of_readOperand hf (hAbsX w).1 (hAbsX w).2,
   fun w => readForm_of_readOperand hf (hAbsY w).1 (hAbsY w).2,
   fun b => ⟨readForm_of_readOperand hf (hIndX b).1 (hIndX b).2, pointerHalts_of_resolve fun s => congrFun (hIndX b).2 s⟩,
   fun b => ⟨readForm_of_readOperand hf (hIndY b).1 (hIndY b).2, pointerHalts_of_resolve fun s => congrFun (hIndY b).2 s⟩⟩

theorem loadA_registerEffect (m : Byte) : RegisterEffect (loadA m) := fun _ _ _ _ => rfl

theorem loadX_registerEffect (m : Byte) : RegisterEffect (loadX m) := fun _ _ _ _ => rfl

theorem loadY_registerEffect (m : Byte) : RegisterEffect (loadY m) := fun _ _ _ _ => rfl

/-- Settles O18, from the shapes of the eight forms with the effect `loadA`. -/
theorem ldaLoadsTheAccumulator : Obligations.LdaLoadsTheAccumulator := by
  unfold Obligations.LdaLoadsTheAccumulator
  simp only [← setZN_eq_zn]
  exact eightForms_of_operation loadA_registerEffect (fun _ => ⟨rfl, rfl⟩) (fun _ => ⟨rfl, rfl⟩) (fun _ => ⟨rfl, rfl⟩)
    (fun _ => ⟨rfl, rfl⟩) (fun _ => ⟨rfl, rfl⟩) (fun _ => ⟨rfl, rfl⟩) (fun _ => ⟨rfl, rfl⟩) (fun _ => ⟨rfl, rfl⟩)

/-- Settles O19, from the shapes of an immediate form and of a read, with the effects `loadX` and `loadY`. -/
theorem ldxAndLdyLoadTheIndexRegisters : Obligations.LdxAndLdyLoadTheIndexRegisters := by
  unfold Obligations.LdxAndLdyLoadTheIndexRegisters
  simp only [← setZN_eq_zn]
  refine ⟨?ldxImm, ?ldxZp, ?ldxZpY, ?ldxAbs, ?ldxAbsY, ?ldyImm, ?ldyZp, ?ldyZpX, ?ldyAbs, ?ldyAbsX⟩
  case ldxImm => exact fun v => immForm_of_internal (loadX_registerEffect v) rfl rfl
  case ldyImm => exact fun v => immForm_of_internal (loadY_registerEffect v) rfl rfl
  case ldxZp | ldxZpY | ldxAbs | ldxAbsY => exact fun _ => readForm_of_readOperand loadX_registerEffect rfl rfl
  case ldyZp | ldyZpX | ldyAbs | ldyAbsX => exact fun _ => readForm_of_readOperand loadY_registerEffect rfl rfl

/-- Settles O20: each form is a `storeOperand` of its register, and a halted pointer byte of STA ends it before the write. -/
theorem storesWriteOneByteAndNoFlag : Obligations.StoresWriteOneByteAndNoFlag := by
  unfold Obligations.StoresWriteOneByteAndNoFlag
  refine ⟨?staZp, ?staZpX, ?staAbs, ?staAbsX, ?staAbsY, ?staIndX, ?staIndY, ?haltIndX, ?haltIndY, ?stxZp, ?stxZpY, ?stxAbs,
    ?styZp, ?styZpX, ?styAbs⟩
  case haltIndX | haltIndY => exact fun _ => pointerHalts_of_resolve fun _ => rfl
  all_goals exact fun _ => storeForm_of_storeOperand rfl fun _ => rfl

/-- Settles O21: each transfer is internal to the registers, the five that set flags being a load of their source register. -/
theorem transfersMoveOneRegister : Obligations.TransfersMoveOneRegister := by
  unfold Obligations.TransfersMoveOneRegister
  simp only [← setZN_eq_zn]
  refine ⟨?tax, ?tay, ?txa, ?tya, ?tsx, ?txs⟩
  all_goals exact impliedForm_of_internal (fun _ _ _ _ => rfl) rfl rfl

end Sys2Proof.Machine
end

section
/-! PROOFS, 42_arithmetic.md: the model's bit tests and nibble masks as numbers, the binary subtraction as an addition of the
complement, the decimal sum and difference as two decimal digits, and the statements about ADC and SBC assembled from them. -/

namespace Sys2Proof.Machine

open Sys2Proof.Claim

/-- What N says of a result byte (R161, R164). -/
theorem getLsbD_seven_iff (v : Byte) : v.getLsbD 7 = true ↔ 128 ≤ v.toNat := by
  rw [getLsbD_seven, decide_eq_true_iff]

/-- The mask 0x80 keeps bit 7 alone, as V tests it (R161, R164). -/
theorem and_signBit_bne_zero (x : Byte) : ((x &&& 0x80#8) != 0#8) = x.getLsbD 7 := by
  have hmask : x &&& 0x80#8 = if x.getLsbD 7 then 0x80#8 else 0#8 := BitVec.and_twoPow x 7
  rw [hmask]
  cases x.getLsbD 7 <;> rfl

theorem addBin_r_toNat (a m : Byte) (c : Bool) : (addBin a m c).r.toNat = (a.toNat + m.toNat + c.toNat) % 256 :=
  BitVec.toNat_ofNat _ _

/-- V of the binary add: both operands differ from the result in sign (R161). -/
theorem addBin_v_iff (a m : Byte) (c : Bool) : (addBin a m c).v = true ↔
    ¬(128 ≤ a.toNat ↔ 128 ≤ (addBin a m c).r.toNat) ∧ ¬(128 ≤ m.toNat ↔ 128 ≤ (addBin a m c).r.toNat) := by
  rw [addBin, and_signBit_bne_zero, BitVec.getLsbD_and, BitVec.getLsbD_xor, BitVec.getLsbD_xor]
  simp only [getLsbD_seven, Bool.and_eq_true, bne_iff_ne, ne_eq, decide_eq_decide]

/-- Settles O14, V from the signs of the operands and of the result. -/
theorem binaryAddMatchesIntegerAddition : Obligations.BinaryAddMatchesIntegerAddition := by
  intro a m c
  refine ⟨addBin_r_toNat a m c, decide_eq_true_iff, ?v, beq_iff_eq, getLsbD_seven_iff _⟩
  case v =>
    rw [addBin_v_iff, addBin_r_toNat, BitVec.toInt_eq_toNat_cond, BitVec.toInt_eq_toNat_cond]
    have := c.toNat_le
    omega

/-- All five outputs of the binary subtraction are those of the binary add of the complement (R164). -/
theorem subBin_eq_addBin_not (a m : Byte) (c : Bool) : subBin a m c = addBin a (~~~m) c := by
  have hm : (~~~m).toNat = 255 - m.toNat := BitVec.toNat_not
  have hr : BitVec.ofInt 8 ((a.toNat : Int) - m.toNat - (1 - c.toNat)) =
      BitVec.ofNat 8 (a.toNat + (~~~m).toNat + c.toNat) := by
    apply BitVec.eq_of_toNat_eq
    rw [BitVec.toNat_ofInt, BitVec.toNat_ofNat]
    omega
  have hv (r : Byte) : (a ^^^ m) &&& (a ^^^ r) = (a ^^^ r) &&& (~~~m ^^^ r) := by
    ext i hi
    simp only [BitVec.getElem_and, BitVec.getElem_xor, BitVec.getElem_not]
    cases a[i] <;> cases m[i] <;> cases r[i] <;> rfl
  have hc : decide (0 ≤ (a.toNat : Int) - m.toNat - (1 - c.toNat)) =
      decide (255 < a.toNat + (~~~m).toNat + c.toNat) := by
    rw [decide_eq_decide]
    omega
  simp only [subBin, addBin, hr, hv, hc]

theorem toInt_not (m : Byte) : (~~~m).toInt = -m.toInt - 1 := by
  rw [BitVec.toInt_eq_toNat_cond, BitVec.toInt_eq_toNat_cond, BitVec.toNat_not]
  omega

/-- Settles O15, from the binary add of the complement. -/
theorem binarySubtractIsAdditionOfTheComplement : Obligations.BinarySubtractIsAdditionOfTheComplement := by
  intro a m c
  obtain ⟨hr, hc, hv, hz, hn⟩ := binaryAddMatchesIntegerAddition a (~~~m) c
  rw [BitVec.toNat_not] at hr hc
  rw [toInt_not] at hv
  rw [subBin_eq_addBin_not]
  refine ⟨?difference, hc.trans ?carry, hv.trans ?overflow, hz, hn, rfl⟩
  all_goals omega

theorem lowNibble_toNat (v : Byte) : (v &&& 0x0F#8).toNat = v.toNat % 16 :=
  (BitVec.toNat_and v 0x0F#8).trans (Nat.and_two_pow_sub_one_eq_mod v.toNat 4)

theorem highNibble_toNat (v : Byte) : (v &&& 0xF0#8).toNat = v.toNat / 16 * 16 := by
  have hshift : v &&& 0xF0#8 = v >>> 4 <<< 4 :=
    (BitVec.shiftLeft_ushiftRight (x := v) (n := 4)).symm
  rw [hshift, BitVec.toNat_shiftLeft, BitVec.toNat_ushiftRight, Nat.shiftLeft_eq, Nat.shiftRight_eq_div_pow]
  omega

theorem highNibble_toInt (v : Byte) : (v &&& 0xF0#8).toInt = highSigned v := by
  rw [BitVec.toInt_eq_toNat_cond, highNibble_toNat, highSigned]
  omega

/-- A byte written as two decimal digits is that number in BCD. -/
theorem isBcd_and_bcdValue_of_digits {v : Byte} {h l : Nat} (hh : h ≤ 9) (hl : l ≤ 9) (hv : v.toNat = h * 16 + l) :
    IsBcd v ∧ bcdValue v = h * 10 + l := by
  rw [IsBcd, bcdValue]
  omega

section DecimalAdd

variable {a m : Byte} {c : Bool} {low al t : Nat} (hlow : low = a.toNat % 16 + m.toNat % 16 + c.toNat)
  (hal : al = if 10 ≤ low then (low + 6) % 16 + 16 else low) (ht : t = a.toNat / 16 * 16 + m.toNat / 16 * 16 + al)

include hlow hal ht

/-- R162 with the nibbles as numbers. -/
theorem addDec_eq {tn : Int} (htn : tn = highSigned a + highSigned m + al) :
    addDec a m c =
      { r := BitVec.ofNat 8 (if 160 ≤ t then t + 96 else t), n := (BitVec.ofInt 8 tn).getLsbD 7,
        v := decide (tn < -128) || decide (127 < tn), z := (a.toNat + m.toNat + c.toNat) % 256 == 0,
        c := decide (256 ≤ if 160 ≤ t then t + 96 else t) } := by
  subst hlow hal ht htn
  simp only [addDec, lowNibble_toNat, highNibble_toNat, highNibble_toInt]

/-- For BCD operands the sum before the adjustment of the high digit has a decimal low digit, whose carry is in the high one. -/
theorem decimalSum_digits (ha : IsBcd a) (hm : IsBcd m) : ∃ h l, h ≤ 19 ∧ l ≤ 9 ∧ t = h * 16 + l ∧
    bcdValue a + bcdValue m + c.toNat = h * 10 + l := by
  obtain ⟨haHigh, haLow⟩ := ha
  obtain ⟨hmHigh, hmLow⟩ := hm
  have := c.toNat_le
  rw [bcdValue, bcdValue]
  by_cases hcarry : 10 ≤ low
  · rw [if_pos hcarry] at hal
    exact ⟨a.toNat / 16 + m.toNat / 16 + 1, low - 10, by omega⟩
  · rw [if_neg hcarry] at hal
    exact ⟨a.toNat / 16 + m.toNat / 16, low, by omega⟩

end DecimalAdd

/-- Settles O16, from the algorithm over numbers and, for BCD operands, the two digits of the sum. -/
theorem decimalAddFollowsTheNmosAlgorithm : Obligations.DecimalAddFollowsTheNmosAlgorithm := by
  intro a m c low al t tn hlow hal ht htn
  rw [addDec_eq hlow hal ht htn]
  refine ⟨BitVec.toNat_ofNat _ _, decide_eq_true_iff, ?n, ?v, beq_iff_eq, fun ha hm => ?bcd⟩
  case n =>
    rw [getLsbD_seven_iff, BitVec.toNat_ofInt]
    omega
  case v => rw [Bool.or_eq_true, decide_eq_true_iff, decide_eq_true_iff]
  case bcd =>
    obtain ⟨h, l, hh, hl, rfl, hvalue⟩ := decimalSum_digits hlow hal ht ha hm
    have hdigits : (BitVec.ofNat 8 (if 160 ≤ h * 16 + l then h * 16 + l + 96 else h * 16 + l)).toNat = h % 10 * 16 + l := by
      rw [BitVec.toNat_ofNat]
      split <;> omega
    obtain ⟨hbcd, hdecimal⟩ := isBcd_and_bcdValue_of_digits (by omega) hl hdigits
    rw [hvalue]
    refine ⟨hbcd, hdecimal.trans (by omega), decide_eq_true_iff.trans ?_⟩
    split <;> omega

section DecimalSubtract

variable {a m : Byte} {c : Bool} {low al t : Int}
  (hlow : low = (a.toNat % 16 : Nat) - ((m.toNat % 16 : Nat) : Int) + c.toNat - 1)
  (hal : al = if low < 0 then (low - 6) % 16 - 16 else low)
  (ht : t = (a.toNat / 16 * 16 : Nat) - ((m.toNat / 16 * 16 : Nat) : Int) + al)

include hlow hal ht

/-- R165 with the nibbles as numbers. -/
theorem subDec_toNat : ((subDec a m c).toNat : Int) = (if t < 0 then t - 96 else t) % 256 := by
  subst hlow hal ht
  simp only [subDec, lowNibble_toNat, highNibble_toNat, BitVec.toNat_ofInt]
  omega

/-- For BCD operands the difference before the adjustment of the high digit has a decimal low digit, whose borrow is in the high
one. -/
theorem decimalDifference_digits (ha : IsBcd a) (hm : IsBcd m) : ∃ (h : Int) (l : Nat), -10 ≤ h ∧ h ≤ 9 ∧ l ≤ 9 ∧
    t = h * 16 + l ∧ (bcdValue a : Int) - bcdValue m - (1 - c.toNat) = h * 10 + l := by
  obtain ⟨haHigh, haLow⟩ := ha
  obtain ⟨hmHigh, hmLow⟩ := hm
  have := c.toNat_le
  rw [bcdValue, bcdValue]
  by_cases hborrow : low < 0
  · exact ⟨a.toNat / 16 - m.toNat / 16 - 1, (low + 10).toNat, by omega⟩
  · exact ⟨a.toNat / 16 - m.toNat / 16, low.toNat, by omega⟩

end DecimalSubtract

/-- For BCD operands the binary borrow is the decimal one: both compare the digits from the high one down (R165). -/
theorem subBin_c_iff_of_bcd {a m : Byte} (c : Bool) (ha : IsBcd a) (hm : IsBcd m) :
    (subBin a m c).c = true ↔ 0 ≤ (bcdValue a : Int) - bcdValue m - (1 - c.toNat) := by
  obtain ⟨-, hc, -⟩ := binarySubtractIsAdditionOfTheComplement a m c
  obtain ⟨haHigh, haLow⟩ := ha
  obtain ⟨hmHigh, hmLow⟩ := hm
  have := c.toNat_le
  rw [hc, bcdValue, bcdValue]
  omega

/-- Settles O17, from the algorithm over numbers and, for BCD operands, the two digits of the difference. -/
theorem decimalSubtractFollowsTheNmosAlgorithm : Obligations.DecimalSubtractFollowsTheNmosAlgorithm := by
  intro a m c low al t hlow hal ht
  have hr := subDec_toNat hlow hal ht
  refine ⟨hr, fun ha hm => ?_⟩
  obtain ⟨h, l, hh, hh', hl, rfl, hvalue⟩ := decimalDifference_digits hlow hal ht ha hm
  have hdigits : (subDec a m c).toNat = (h % 10).toNat * 16 + l := by omega
  obtain ⟨hbcd, hdecimal⟩ := isBcd_and_bcdValue_of_digits (by omega) hl hdigits
  refine ⟨hbcd, ?_, subBin_c_iff_of_bcd c ha hm⟩
  rw [hvalue, hdecimal]
  omega

theorem adcA_registerEffect (m : Byte) : RegisterEffect (adcA m) := fun _ _ _ _ => rfl

theorem sbcA_registerEffect (m : Byte) : RegisterEffect (sbcA m) := fun _ _ _ _ => rfl

/-- Settles O22, from the shapes of the eight forms with the effect `adcA`. -/
theorem adcAddsInTheModeOfD : Obligations.AdcAddsInTheModeOfD :=
  eightForms_of_operation adcA_registerEffect (fun _ => ⟨rfl, rfl⟩) (fun _ => ⟨rfl, rfl⟩) (fun _ => ⟨rfl, rfl⟩)
    (fun _ => ⟨rfl, rfl⟩) (fun _ => ⟨rfl, rfl⟩) (fun _ => ⟨rfl, rfl⟩) (fun _ => ⟨rfl, rfl⟩) (fun _ => ⟨rfl, rfl⟩)

/-- Settles O23, from the shapes of the eight forms with the effect `sbcA`. -/
theorem sbcSubtractsInTheModeOfD : Obligations.SbcSubtractsInTheModeOfD :=
  eightForms_of_operation sbcA_registerEffect (fun _ => ⟨rfl, rfl⟩) (fun _ => ⟨rfl, rfl⟩) (fun _ => ⟨rfl, rfl⟩)
    (fun _ => ⟨rfl, rfl⟩) (fun _ => ⟨rfl, rfl⟩) (fun _ => ⟨rfl, rfl⟩) (fun _ => ⟨rfl, rfl⟩) (fun _ => ⟨rfl, rfl⟩)

end Sys2Proof.Machine
end

section
/-! PROOFS, 43_logic.md: the effects of the operand byte leave the bus alone, bit 6 of a byte as a number, and the statements about AND,
ORA, EOR and BIT assembled from them. -/

namespace Sys2Proof.Machine

open Sys2Proof.Claim

theorem andA_registerEffect (m : Byte) : RegisterEffect (andA m) := fun _ _ _ _ => rfl

theorem oraA_registerEffect (m : Byte) : RegisterEffect (oraA m) := fun _ _ _ _ => rfl

theorem eorA_registerEffect (m : Byte) : RegisterEffect (eorA m) := fun _ _ _ _ => rfl

theorem testA_registerEffect (m : Byte) : RegisterEffect (testA m) := fun _ _ _ _ => rfl

/-- Settles O24, from the shapes of the eight forms with the effects `andA`, `oraA` and `eorA`. -/
theorem logicOperationsCombineIntoTheAccumulator : Obligations.LogicOperationsCombineIntoTheAccumulator := by
  unfold Obligations.LogicOperationsCombineIntoTheAccumulator
  simp only [← setZN_eq_zn]
  refine ⟨?and, ?ora, ?eor⟩
  case and => apply eightForms_of_operation andA_registerEffect <;> exact fun _ => ⟨rfl, rfl⟩
  case ora => apply eightForms_of_operation oraA_registerEffect <;> exact fun _ => ⟨rfl, rfl⟩
  case eor => apply eightForms_of_operation eorA_registerEffect <;> exact fun _ => ⟨rfl, rfl⟩

/-- Bit 6 of a byte, the top bit of its low seven, as a comparison: what V says of the operand of BIT (R183). -/
theorem getLsbD_six (m : Byte) : m.getLsbD 6 = decide (64 ≤ m.toNat % 128) := by
  have hlow : (m.setWidth 7).msb = m.getLsbD 6 := by
    rw [BitVec.msb_eq_getLsbD_last, BitVec.getLsbD_setWidth]
    rfl
  rw [← hlow, BitVec.msb_eq_decide, BitVec.toNat_setWidth]

/-- BIT's effect with N and V as comparisons on the operand itself (R183). -/
theorem testA_eq (m : Byte) (s : State) : testA m s =
    { s with flags := { s.flags with z := decide (s.a &&& m = 0#8), n := decide (128 ≤ m.toNat),
                                     v := decide (64 ≤ m.toNat % 128) } } := by
  rw [testA, bitTest, getLsbD_seven, getLsbD_six]
  rfl

/-- Settles O25: both forms are reads with the effect `testA`. -/
theorem bitTestsTheOperand : Obligations.BitTestsTheOperand := by
  unfold Obligations.BitTestsTheOperand
  simp only [← testA_eq]
  exact ⟨fun _ => readForm_of_readOperand testA_registerEffect rfl rfl,
    fun _ => readForm_of_readOperand testA_registerEffect rfl rfl⟩

end Sys2Proof.Machine
end

section
/-! PROOFS, 44_shift_rotate.md: the four shifts by one as arithmetic on the byte, the accumulator and memory shapes of a
read-modify-write, and the statement about ASL, LSR, ROL and ROR assembled from them. -/

namespace Sys2Proof.Machine

open Sys2Proof.Claim

/-- Bit 0 of a byte as its parity: the bit that LSR and ROR shift out (R191, R193). -/
theorem getLsbD_zero (m : Byte) : m.getLsbD 0 = decide (m.toNat % 2 = 1) := by
  rw [BitVec.getLsbD, Nat.testBit_zero]

/-- Setting Z and N leaves a C written before them in place (R120). -/
theorem setZN_carry_eq_zn (r : Byte) (f : Flags) (c : Bool) : setZN r { f with c := c } = { zn r f with c := c } := by
  rw [setZN_eq_zn, zn, zn]

theorem shiftLeft_one_eq (m : Byte) : m <<< 1 = BitVec.ofNat 8 (m.toNat * 2) := by
  apply BitVec.eq_of_toNat_eq
  rw [BitVec.toNat_shiftLeft, Nat.shiftLeft_eq, BitVec.toNat_ofNat, Nat.pow_one]

theorem ushiftRight_one_eq (m : Byte) : m >>> 1 = BitVec.ofNat 8 (m.toNat / 2) := by
  have hm := m.isLt
  apply BitVec.eq_of_toNat_eq
  rw [BitVec.toNat_ushiftRight, Nat.shiftRight_eq_div_pow, BitVec.toNat_ofNat]
  omega

/-- ASL doubles the byte modulo 256 (R190). -/
theorem asl_eq (m : Byte) (f : Flags) : asl m f = (BitVec.ofNat 8 (m.toNat * 2),
    { zn (BitVec.ofNat 8 (m.toNat * 2)) f with c := decide (128 ≤ m.toNat) }) := by
  simp only [asl, shiftLeft_one_eq, getLsbD_seven, setZN_carry_eq_zn]

/-- LSR halves the byte (R191). -/
theorem lsr_eq (m : Byte) (f : Flags) : lsr m f = (BitVec.ofNat 8 (m.toNat / 2),
    { zn (BitVec.ofNat 8 (m.toNat / 2)) f with c := decide (m.toNat % 2 = 1) }) := by
  simp only [lsr, ushiftRight_one_eq, getLsbD_zero, setZN_carry_eq_zn]

/-- ROL doubles the byte and adds the old C, modulo 256 (R192). -/
theorem rol_eq (m : Byte) (f : Flags) : rol m f = (BitVec.ofNat 8 (m.toNat * 2 + f.c.toNat),
    { zn (BitVec.ofNat 8 (m.toNat * 2 + f.c.toNat)) f with c := decide (128 ≤ m.toNat) }) := by
  simp only [rol, getLsbD_seven, setZN_carry_eq_zn]

/-- ROR halves the byte and puts the old C in bit 7 (R193). -/
theorem ror_eq (m : Byte) (f : Flags) : ror m f = (BitVec.ofNat 8 (m.toNat / 2 + f.c.toNat * 128),
    { zn (BitVec.ofNat 8 (m.toNat / 2 + f.c.toNat * 128)) f with c := decide (m.toNat % 2 = 1) }) := by
  simp only [ror, getLsbD_zero, setZN_carry_eq_zn]

section Shapes

variable {i : Instr} {opcode : Byte} {f : Byte → Flags → Byte × Flags}

theorem accForm_of_modifyAcc (hcode : encode i = [opcode]) (hexec : exec i = modifyAcc 2 f) : AccForm i opcode f :=
  ⟨hcode, fun s => by rw [hexec]; rfl⟩

/-- A read-modify-write past the resolver's pointer bytes: the read answers, and the write and the flags follow, or it halts
(R118, R122). -/
theorem modifyForm_of_modifyOperand {base : Nat} {o : Operand} (hcode : (encode i).head? = some opcode)
    (hexec : exec i = modifyOperand base o f) : ModifyForm i opcode o base f := by
  refine ⟨hcode, fun s t r hresolve => ?_⟩
  obtain ⟨reads, rfl⟩ := resolve_done_eq hresolve
  rw [hexec, modifyOperand, hresolve, andThen_done]
  constructor
  · intro hanswers
    rw [memRead_done ((withReads_isHalt s reads r.ea).trans hanswers), andThen_done]
    have hmem := readByte_memWrite (withReads (withReads s reads) [r.ea]) r.ea
      (v := (f (busRead (withReads s reads) 0 r.ea) s.flags).1)
    have hstored := storedByte_of_drop (a := r.ea) (withReads_bus (withReads s reads) [r.ea]) rfl 0
    refine ⟨_, rfl, ?next, ((hmem r.ea).trans (if_pos rfl)).trans (hstored _), fun a ha => (hmem a).trans (if_neg ha)⟩
    case next => simp [cost]
  · intro hhalts
    rw [memRead_halt ((withReads_isHalt s reads r.ea).trans hhalts)]
    rfl

end Shapes

/-- Settles O26: each form is a read-modify-write of A or of memory with one of the four shifts. -/
theorem shiftsAndRotatesMoveOneBitThroughCarry : Obligations.ShiftsAndRotatesMoveOneBitThroughCarry := by
  unfold Obligations.ShiftsAndRotatesMoveOneBitThroughCarry
  simp only [← asl_eq, ← lsr_eq, ← rol_eq, ← ror_eq]
  refine ⟨?aslAcc, ?aslZp, ?aslZpX, ?aslAbs, ?aslAbsX, ?lsrAcc, ?lsrZp, ?lsrZpX, ?lsrAbs, ?lsrAbsX,
    ?rolAcc, ?rolZp, ?rolZpX, ?rolAbs, ?rolAbsX, ?rorAcc, ?rorZp, ?rorZpX, ?rorAbs, ?rorAbsX⟩
  case aslAcc | lsrAcc | rolAcc | rorAcc => exact accForm_of_modifyAcc rfl rfl
  all_goals exact fun _ => modifyForm_of_modifyOperand rfl rfl

end Sys2Proof.Machine
end

section
/-! PROOFS, 45_compare_incdec.md: the flags of COMPARE over numbers, the two steps by one as arithmetic on the byte, and the
statements about compares, memory steps and index register steps assembled from them. -/

namespace Sys2Proof.Machine

open Sys2Proof.Claim

theorem sub_toNat_eq_mod (r m : Byte) : (r - m).toNat = (r.toNat + 256 - m.toNat) % 256 := by
  have := m.isLt
  rw [BitVec.toNat_sub]
  omega

/-- COMPARE's flags over numbers, whatever the carry was (R200). -/
theorem compareFlags_eq (r m : Byte) (f : Flags) : compareFlags r m f =
    { f with c := decide (m.toNat ≤ r.toNat), z := decide (r = m),
             n := decide (128 ≤ (r.toNat + 256 - m.toNat) % 256) } := by
  have hz : r - m = 0#8 ↔ r = m := by rw [BitVec.sub_eq_iff_eq_add, BitVec.zero_add]
  simp only [compareFlags, setZN_eq_zn, zn, hz, sub_toNat_eq_mod]

theorem cmpA_registerEffect (m : Byte) : RegisterEffect (cmpA m) := fun _ _ _ _ => rfl

theorem cmpX_registerEffect (m : Byte) : RegisterEffect (cmpX m) := fun _ _ _ _ => rfl

theorem cmpY_registerEffect (m : Byte) : RegisterEffect (cmpY m) := fun _ _ _ _ => rfl

/-- Settles O27, from the shapes of the forms with the effects `cmpA`, `cmpX` and `cmpY`. -/
theorem comparesSetCarryZeroNegative : Obligations.ComparesSetCarryZeroNegative := by
  unfold Obligations.ComparesSetCarryZeroNegative
  simp only [← compareFlags_eq]
  refine ⟨?cmp, ?cpxImm, ?cpxZp, ?cpxAbs, ?cpyImm, ?cpyZp, ?cpyAbs⟩
  case cmp => apply eightForms_of_operation cmpA_registerEffect <;> exact fun _ => ⟨rfl, rfl⟩
  case cpxImm => exact fun v => immForm_of_internal (cmpX_registerEffect v) rfl rfl
  case cpyImm => exact fun v => immForm_of_internal (cmpY_registerEffect v) rfl rfl
  case cpxZp | cpxAbs => exact fun _ => readForm_of_readOperand cmpX_registerEffect rfl rfl
  case cpyZp | cpyAbs => exact fun _ => readForm_of_readOperand cmpY_registerEffect rfl rfl

theorem add_one_eq_ofNat (m : Byte) : m + 1#8 = BitVec.ofNat 8 (m.toNat + 1) := BitVec.add_def m 1#8

/-- One less modulo 256 is 255 more (R205). -/
theorem sub_one_eq_ofNat (m : Byte) : m - 1#8 = BitVec.ofNat 8 (m.toNat + 255) := by
  rw [BitVec.sub_def, Nat.add_comm]
  rfl

/-- INC's new byte and flags over numbers (R204). -/
theorem inc_eq (m : Byte) (f : Flags) :
    inc m f = (BitVec.ofNat 8 (m.toNat + 1), zn (BitVec.ofNat 8 (m.toNat + 1)) f) := by
  rw [inc, add_one_eq_ofNat, setZN_eq_zn]

/-- DEC's new byte and flags over numbers (R205). -/
theorem dec_eq (m : Byte) (f : Flags) :
    dec m f = (BitVec.ofNat 8 (m.toNat + 255), zn (BitVec.ofNat 8 (m.toNat + 255)) f) := by
  rw [dec, sub_one_eq_ofNat, setZN_eq_zn]

/-- Settles O28: each form is a read-modify-write of memory with `inc` or `dec`. -/
theorem incAndDecModifyMemory : Obligations.IncAndDecModifyMemory := by
  unfold Obligations.IncAndDecModifyMemory
  simp only [← inc_eq, ← dec_eq]
  refine ⟨?incZp, ?incZpX, ?incAbs, ?incAbsX, ?decZp, ?decZpX, ?decAbs, ?decAbsX⟩
  all_goals exact fun _ => modifyForm_of_modifyOperand rfl rfl

/-- Settles O29: each form is internal to the registers, with the byte and flags that `inc` or `dec` gives. -/
theorem indexRegistersStepByOne : Obligations.IndexRegistersStepByOne := by
  unfold Obligations.IndexRegistersStepByOne
  simp only [← add_one_eq_ofNat, ← sub_one_eq_ofNat, ← setZN_eq_zn]
  refine ⟨?inx, ?iny, ?dex, ?dey⟩
  all_goals exact impliedForm_of_internal (fun _ _ _ _ => rfl) rfl rfl

end Sys2Proof.Machine
end

section
/-! PROOFS, 46_branch.md: what a taken branch costs, the shape of a conditional branch either way its condition falls, and the
statement about the eight branches assembled from them. -/

namespace Sys2Proof.Machine

open Sys2Proof.Claim

/-- A taken branch pays one cycle, and one more if the target's page is not that of the next instruction (R119, R220). -/
theorem cost_branch_taken (target next : Addr) : cost 2 .branch (hi target != hi next) true =
    if target.toNat / 256 = next.toNat / 256 then 3 else 4 := by
  by_cases hpage : target.toNat / 256 = next.toNat / 256 <;> simp [cost, hi_bne_hi, hpage]

/-- A branch that is not taken only adds its two cycles; a taken one also sets PC to the target of R116. -/
theorem branchForm_of_branchIf {i : Byte → Instr} {opcode : Byte} {cond : State → Bool}
    (hcode : ∀ off, encode (i off) = [opcode, off]) (hexec : ∀ off s, exec (i off) s = branchIf 2 (cond s) off s) :
    BranchForm i opcode cond := by
  refine fun off s => ⟨hcode off, fun hskip => ?skipped, fun htake => ?taken⟩
  case skipped =>
    rw [hexec, hskip]
    rfl
  case taken =>
    refine ⟨s.pc + sext16 off, add_sext16_toNat s.pc off, ?_⟩
    rw [hexec, htake, ← cost_branch_taken]
    rfl

/-- Settles O30: each branch is `branchIf` on its own flag. -/
theorem branchesTestOneFlag : Obligations.BranchesTestOneFlag := by
  refine ⟨?bcc, ?bcs, ?beq, ?bne, ?bmi, ?bpl, ?bvc, ?bvs⟩
  all_goals exact branchForm_of_branchIf (fun _ => rfl) (fun _ _ => rfl)

end Sys2Proof.Machine
end

section
/-! PROOFS, 47_jump_subroutine.md: where a jump ends, memory after two pushes, a pull that follows other pulls, and the
statements about JMP, JSR and RTS assembled from them. -/

namespace Sys2Proof.Machine

open Sys2Proof.Claim

/-- A jump whose resolver answers: PC at the address, the base cost whether or not the page was crossed, and the bus as the
resolver left it (R240). -/
theorem jumpTo_done {base : Nat} {o : Operand} {s t : State} {r : Resolved} (h : resolve o s = .done r t) :
    jumpTo base o s = .next { s with pc := r.ea, cyc := s.cyc + base, bus := t.bus, busLog := t.busLog } := by
  obtain ⟨reads, rfl⟩ := resolve_done_eq h
  rw [jumpTo, h]
  rfl

/-- Settles O31: both forms are a `jumpTo`, and a halted pointer byte ends the indirect one. -/
theorem jmpSetsTheProgramCounter : Obligations.JmpSetsTheProgramCounter := fun w _ =>
  ⟨rfl, rfl, jumpTo_done (o := .abs w) rfl, fun _ _ hresolve => jumpTo_done hresolve, pointerHalts_of_resolve fun _ => rfl⟩

/-- The byte below on the stack is another one, across the end of page 1 too (R25). -/
theorem stackAddr_sub_one_ne (p : Byte) : stackAddr (p - 1#8) ≠ stackAddr p := by
  intro h
  have hsame : p - 1#8 = p := stackAddr_inj.mp h
  bv_omega

/-- MEM after two pushes: the second byte below the first one, across the end of page 1 too, and every other byte as before
(R60). -/
theorem readByte_push_push (s : State) (first second : Byte) (b : Addr) :
    readByte (push second (push first s)) b =
      if b = stackAddr (s.sp - 1#8) then storedByte s 1 (stackAddr (s.sp - 1#8)) second
      else if b = stackAddr s.sp then storedByte s 0 (stackAddr s.sp) first
      else readByte s b := by
  have hkept : readByte (push first s) (stackAddr (s.sp - 1#8)) = readByte s (stackAddr (s.sp - 1#8)) :=
    (readByte_push first s _).trans (if_neg (stackAddr_sub_one_ne s.sp))
  rw [readByte_push, readByte_push, push_sp, storedByte_of_drop (push_bus s first) hkept]

/-- Settles O32, from memory after the two pushes of the return address. -/
theorem jsrPushesReturnAddressMinusOne : Obligations.JsrPushesReturnAddressMinusOne := by
  intro w s
  have hmem := readByte_push_push s (hi (s.pc - 1#16)) (lo (s.pc - 1#16))
  refine ⟨rfl, _, rfl, ?next, (hmem _).trans ?high, (hmem _).trans (if_pos rfl), fun a hhigh hlow => (hmem a).trans ?frame⟩
  case next => simp [BitVec.sub_sub]
  case high => rw [if_neg (stackAddr_sub_one_ne s.sp).symm, if_pos rfl]
  case frame => rw [if_neg hlow, if_neg hhigh]

/-- `s` after pulls that read `reads`, each answered, and raised SP by `n` (R61). -/
def pulled (s : State) (reads : List Addr) (n : Byte) : State := { withReads s reads with sp := s.sp + n }

theorem pulled_sp_add_one (s : State) (reads : List Addr) (n : Byte) :
    (pulled s reads n).sp + 1#8 = s.sp + (n + 1#8) := BitVec.add_assoc s.sp n 1#8

theorem pulled_busRead (s : State) (reads : List Addr) (n : Byte) (k : Nat) (a : Addr) :
    busRead (pulled s reads n) k a = busRead s (reads.length + k) a := withReads_busRead s reads k a

section Pulls

variable {s : State} {reads : List Addr} {n : Byte}

/-- The first pull, its byte answered. -/
theorem pull_done_pulled (h : isHalt s (stackAddr (s.sp + 1#8)) = false) :
    pull s = .done (busRead s 0 (stackAddr (s.sp + 1#8))) (pulled s [stackAddr (s.sp + 1#8)] 1#8) := pull_done h

/-- A pull after others, its byte answered. -/
theorem pull_pulled_done (h : isHalt s (stackAddr (s.sp + (n + 1#8))) = false) :
    pull (pulled s reads n) = .done (busRead s reads.length (stackAddr (s.sp + (n + 1#8))))
      (pulled s (reads ++ [stackAddr (s.sp + (n + 1#8))]) (n + 1#8)) := by
  rw [← pulled_sp_add_one s reads n] at h ⊢
  rw [pull_done h, pulled_busRead]
  simp [pulled, withReads, BitVec.add_assoc]

/-- A pull after others that halts: SP stays raised for it too (R61). -/
theorem pull_pulled_halt (h : isHalt s (stackAddr (s.sp + (n + 1#8))) = true) :
    pull (pulled s reads n) =
      .halt { logCall (.read (stackAddr (s.sp + (n + 1#8)))) (withReads s reads) with sp := s.sp + (n + 1#8) } := by
  rw [← pulled_sp_add_one s reads n] at h ⊢
  exact pull_halt h

end Pulls

/-- The return address plus one, modulo 65536 (R242). -/
theorem a16_add_one_toNat (l h : Byte) : (a16 l h + 1#16).toNat = (h.toNat * 256 + l.toNat + 1) % 65536 := by
  rw [BitVec.toNat_add, a16_toNat]
  rfl

/-- Settles O33, from the two ways each of its pulls can end. -/
theorem rtsPullsAndAddsOne : Obligations.RtsPullsAndAddsOne := by
  rintro s p q rfl rfl
  have hexec : exec .rts s = execRts s := rfl
  rw [hexec, execRts]
  refine ⟨rfl, fun hp hq => ⟨_, a16_add_one_toNat _ _, ?bothAnswer⟩, fun hp => ?firstHalts, fun hp hq => ?secondHalts⟩
  case bothAnswer =>
    rw [pull_done_pulled hp, andThen_done, pull_pulled_done (n := 1#8) hq]
    rfl
  case firstHalts =>
    rw [pull_halt hp]
    rfl
  case secondHalts =>
    rw [pull_done_pulled hp, andThen_done, pull_pulled_halt (n := 1#8) hq]
    simp [complete, haltedWith, stopRun, logCall, withReads]

end Sys2Proof.Machine
end

section
/-! PROOFS, 30_encoding.md: the dispatch table against the mode of an opcode and the encoder, decoding as "opcode, operand bytes of the
mode, rest", and the statements about decode and encode assembled from them. -/

namespace Sys2Proof

theorem Mode.operandBytes_le_two (m : Mode) : m.operandBytes ≤ 2 := by
  cases m <;> decide

end Sys2Proof

namespace Sys2Proof.Machine

/-- The operand bytes do not decide the mode, nor whether the opcode is legal (R80). -/
theorem map_mode_assemble (op b1 b2 : Byte) : (assemble op b1 b2).map Instr.mode = opcodeMode op := by
  unfold opcodeMode assemble
  split <;> rfl

theorem opcodeMode_of_assemble {op b1 b2 : Byte} {i : Instr} (h : assemble op b1 b2 = some i) :
    opcodeMode op = some i.mode := by
  rw [← map_mode_assemble op b1 b2, h, Option.map_some]

theorem assemble_of_opcodeMode {op : Byte} {m : Mode} (h : opcodeMode op = some m) (b1 b2 : Byte) :
    ∃ i, assemble op b1 b2 = some i ∧ i.mode = m := by
  rwa [← map_mode_assemble op b1 b2, Option.map_eq_some_iff] at h

theorem eq_ofNat_of_toNat_eq {v : Byte} {n : Nat} (h : v.toNat = n) : v = BitVec.ofNat 8 n := by
  rw [← h, BitVec.ofNat_toNat, BitVec.setWidth_eq]

/-- Row by row: the encoding of what the table gives is the opcode and those operand bytes that the mode has (R81, R85). -/
theorem encode_of_assemble {op b1 b2 : Byte} {i : Instr} (h : assemble op b1 b2 = some i) :
    encode i = op :: [b1, b2].take i.mode.operandBytes := by
  unfold assemble at h
  split at h
  case h_152 => cases h
  all_goals
    next hop =>
      obtain rfl := eq_ofNat_of_toNat_eq hop
      cases h
      simp [encode, Instr.mode, Mode.operandBytes]

/-- The encoding of `i` is an opcode and as many operand bytes as the mode has, of which the table makes `i` again. -/
def Assembles (i : Instr) : Prop :=
  ∃ op operands, encode i = op :: operands ∧ operands.length = i.mode.operandBytes ∧
    assemble op (operands.getD 0 0x00#8) (operands.getD 1 0x00#8) = some i

/-- A 16-bit operand is its two bytes joined again (R81). -/
theorem assembles_word {c : Addr → Instr} {op : Byte} (hcode : ∀ w, encode (c w) = [op, lo w, hi w])
    (hmode : ∀ w, (c w).mode.operandBytes = 2) (htable : ∀ l h, assemble op l h = some (c (a16 l h))) (w : Addr) :
    Assembles (c w) :=
  ⟨op, [lo w, hi w], hcode w, (hmode w).symm, (htable (lo w) (hi w)).trans (by rw [a16_lo_hi])⟩

theorem instr_assembles (i : Instr) : Assembles i := by
  cases i with
  | ldaAbs w | ldaAbsX w | ldaAbsY w | ldxAbs w | ldxAbsY w | ldyAbs w | ldyAbsX w | staAbs w | staAbsX w | staAbsY w
  | stxAbs w | styAbs w | adcAbs w | adcAbsX w | adcAbsY w | sbcAbs w | sbcAbsX w | sbcAbsY w | andAbs w | andAbsX w
  | andAbsY w | oraAbs w | oraAbsX w | oraAbsY w | eorAbs w | eorAbsX w | eorAbsY w | bitAbs w | aslAbs w | aslAbsX w
  | lsrAbs w | lsrAbsX w | rolAbs w | rolAbsX w | rorAbs w | rorAbsX w | cmpAbs w | cmpAbsX w | cmpAbsY w | cpxAbs w
  | cpyAbs w | incAbs w | incAbsX w | decAbs w | decAbsX w | jmpAbs w | jmpInd w | jsr w =>
    exact assembles_word (fun _ => rfl) (fun _ => rfl) (fun _ _ => rfl) w
  | _ => exact ⟨_, _, rfl, rfl, rfl⟩

/-- Decoding an opcode with the operand bytes of its mode is a lookup in the table. -/
theorem decode_operands {op : Byte} {m : Mode} {operands : List Byte} (hmode : opcodeMode op = some m)
    (hlen : operands.length = m.operandBytes) (rest : List Byte) : decode (op :: operands ++ rest) =
      decoded op (operands.getD 0 0x00#8) (operands.getD 1 0x00#8) rest := by
  have hle := Nat.le_trans (Nat.le_of_eq hlen) m.operandBytes_le_two
  match operands with
  | [] | [b1] | [b1, b2] => simp [decode, hmode, ← hlen]
  | b1 :: b2 :: b3 :: bs => simp at hle

theorem decode_of_assemble {op : Byte} {operands : List Byte} {i : Instr} (hlen : operands.length = i.mode.operandBytes)
    (h : assemble op (operands.getD 0 0x00#8) (operands.getD 1 0x00#8) = some i) (rest : List Byte) :
    decode (op :: operands ++ rest) = .ok (i, rest) := by
  rw [decode_operands (opcodeMode_of_assemble h) hlen, decoded, h]

theorem decoded_ok {op b1 b2 : Byte} {bs rest : List Byte} {i : Instr} (h : decoded op b1 b2 bs = .ok (i, rest)) :
    assemble op b1 b2 = some i ∧ bs = rest := by
  unfold decoded at h
  split at h
  · simp_all
  · cases h

/-- Whatever decodes is an opcode, the operand bytes of its mode and the rest. -/
theorem operands_of_decode {bytes rest : List Byte} {i : Instr} (h : decode bytes = .ok (i, rest)) :
    ∃ op operands, bytes = op :: operands ++ rest ∧ operands.length = i.mode.operandBytes ∧
      assemble op (operands.getD 0 0x00#8) (operands.getD 1 0x00#8) = some i := by
  unfold decode at h
  split at h
  case h_1 => cases h
  case h_2 op bs =>
    split at h
    case h_1 => cases h
    case h_2 m hm =>
      have found {operands : List Byte} {tail : List Byte} (hlen : m.operandBytes = operands.length)
          (h : decoded op (operands.getD 0 0x00#8) (operands.getD 1 0x00#8) tail = .ok (i, rest)) :
          ∃ op' operands', op :: (operands ++ tail) = op' :: operands' ++ rest ∧ operands'.length = i.mode.operandBytes ∧
            assemble op' (operands'.getD 0 0x00#8) (operands'.getD 1 0x00#8) = some i := by
        obtain ⟨htable, rfl⟩ := decoded_ok h
        obtain rfl : m = i.mode := Option.some.inj (hm.symm.trans (opcodeMode_of_assemble htable))
        exact ⟨op, operands, rfl, hlen.symm, htable⟩
      split at h
      case h_1 hn => exact found (operands := []) hn h
      case h_2 b1 tail hn => exact found (operands := [b1]) hn h
      case h_3 b1 b2 tail hn => exact found (operands := [b1, b2]) hn h
      case h_4 => cases h

theorem take_operandBytes {operands : List Byte} {m : Mode} (h : operands.length = m.operandBytes) :
    [operands.getD 0 0x00#8, operands.getD 1 0x00#8].take m.operandBytes = operands := by
  have hle := Nat.le_trans (Nat.le_of_eq h) m.operandBytes_le_two
  rw [← h]
  match operands with
  | [] | [b1] | [b1, b2] => rfl
  | b1 :: b2 :: b3 :: bs => simp at hle

/-- Settles O2: the table makes the instruction of its encoding again, and decoding is the table's lookup. -/
theorem decodeOfEncodeIsTheInstruction : Obligations.DecodeOfEncodeIsTheInstruction := by
  intro i rest
  obtain ⟨op, operands, hcode, hlen, htable⟩ := instr_assembles i
  rw [hcode]
  exact decode_of_assemble hlen htable rest

/-- Settles O3: the bytes before the rest are the opcode and the operand bytes of the row that decoding finds. -/
theorem encodeOfDecodeIsTheBytes : Obligations.EncodeOfDecodeIsTheBytes := by
  intro bytes rest i h
  obtain ⟨op, operands, rfl, hlen, htable⟩ := operands_of_decode h
  have hcode : encode i = op :: operands := by
    rw [encode_of_assemble htable, take_operandBytes hlen]
  rw [hcode]
  exact ⟨rfl, by rw [List.length_cons, hlen, Nat.add_comm]⟩

/-- The length column of R85 and the list of R87, opcode by opcode. -/
theorem opcode_lists (op : Byte) :
    (op ∈ illegalOpcodes ↔ opcodeMode op = none) ∧
    (oneByteOpcodes.contains op = ((opcodeMode op).map Mode.operandBytes == some 0)) ∧
    (twoByteOpcodes.contains op = ((opcodeMode op).map Mode.operandBytes == some 1)) ∧
    (threeByteOpcodes.contains op = ((opcodeMode op).map Mode.operandBytes == some 2)) := by
  revert op
  decide

/-- A legal opcode is never rejected by name: it decodes, or its operand bytes are missing (R87). -/
theorem decode_illegalOpcode_iff (op : Byte) (rest : List Byte) :
    decode (op :: rest) = .error (.illegalOpcode op) ↔ opcodeMode op = none := by
  cases hm : opcodeMode op with
  | none => simp [decode, hm]
  | some m =>
    have legal (b1 b2 : Byte) (tail : List Byte) : decoded op b1 b2 tail ≠ .error (.illegalOpcode op) := by
      obtain ⟨i, htable, _⟩ := assemble_of_opcodeMode hm b1 b2
      simp [decoded, htable]
    simp only [decode, hm]
    split <;> simp [legal]

/-- A string decodes with nothing left over if it is an opcode and as many bytes as its mode has. -/
theorem decode_whole_iff (op : Byte) (operands : List Byte) : (∃ i, decode (op :: operands) = .ok (i, [])) ↔
    (opcodeMode op).map Mode.operandBytes = some operands.length := by
  constructor
  · rintro ⟨i, h⟩
    obtain ⟨op', operands', hbytes, hlen, htable⟩ := operands_of_decode h
    obtain ⟨rfl, rfl⟩ := List.cons.inj (hbytes.trans (List.append_nil _))
    rw [opcodeMode_of_assemble htable, hlen, Option.map_some]
  · intro h
    obtain ⟨m, hmode, hlen⟩ := Option.map_eq_some_iff.mp h
    obtain ⟨i, htable, rfl⟩ := assemble_of_opcodeMode hmode (operands.getD 0 0x00#8) (operands.getD 1 0x00#8)
    have hdecode := decode_of_assemble hlen.symm htable []
    rw [List.append_nil] at hdecode
    exact ⟨i, hdecode⟩

/-- The check on byte strings is the length column (R85). -/
theorem bytesWellFormed_cons (op : Byte) (operands : List Byte) :
    bytesWellFormed (op :: operands) = ((opcodeMode op).map Mode.operandBytes == some operands.length) := by
  obtain ⟨-, hone, htwo, hthree⟩ := opcode_lists op
  match operands with
  | [] => exact hone
  | [b1] => exact htwo
  | [b1, b2] => exact hthree
  | b1 :: b2 :: b3 :: bs =>
    cases hm : opcodeMode op with
    | none => rfl
    | some m =>
      have hle := m.operandBytes_le_two
      have hne : some m.operandBytes ≠ some (b1 :: b2 :: b3 :: bs).length := by
        simp only [ne_eq, Option.some.injEq, List.length_cons]
        omega
      exact (beq_eq_false_iff_ne.mpr hne).symm

/-- Settles O4: both lists agree with the table, opcode by opcode. -/
theorem exactlyTheListedOpcodesAreIllegal : Obligations.ExactlyTheListedOpcodesAreIllegal := by
  refine ⟨fun op rest => ?illegal, fun bytes => ?wellFormed⟩
  case illegal =>
    obtain ⟨hillegal, -⟩ := opcode_lists op
    exact (decode_illegalOpcode_iff op rest).trans hillegal.symm
  case wellFormed =>
    cases bytes with
    | nil => exact ⟨nofun, nofun⟩
    | cons op operands => rw [bytesWellFormed_cons, decode_whole_iff, beq_iff_eq]

/-- Settles O1: each word is a lookup in the table. -/
theorem tableWordsDecodeToTheirInstructions : Obligations.TableWordsDecodeToTheirInstructions := fun _ =>
  ⟨rfl, rfl, rfl, rfl, rfl, rfl, rfl, rfl, rfl, rfl, rfl, rfl⟩

end Sys2Proof.Machine
end

section
/-! PROOFS, 70_reset_and_hazards.md: what Construct leaves, everything that Reset can do, and the statements about both. -/

namespace Sys2Proof.Machine

/-- Settles O56: the fields of the constructed state, and what the two lists of the default one make of any address. -/
theorem theConstructedCoreHasTheListedState : Obligations.TheConstructedCoreHasTheListedState := by
  refine ⟨?_, nofun, fun a => ⟨?_, rfl⟩⟩
  · rintro mem bus halts s rfl
    exact ⟨rfl, rfl, rfl, rfl, rfl, rfl, rfl, rfl, rfl, rfl, rfl, rfl, rfl, fun a => List.contains_iff_mem⟩
  · exact List.contains_iff_mem.trans List.mem_singleton

/-- `s` with the register, flag and latch values of R46. -/
def withResetValues (s : State) : State :=
  { s with a := 0x00#8, x := 0x00#8, y := 0x00#8, sp := 0xFD#8, flags := resetFlags, nmiPending := false }

/-- Everything Reset can do: both vector bytes answer, the first halts, or the second does (R321). -/
theorem resetCore_cases (s : State) :
    (isHalt s 0xFFFC#16 = false ∧ isHalt s 0xFFFD#16 = false ∧ resetCore s =
      { withReads (withResetValues s) [0xFFFC#16, 0xFFFD#16] with
        pc := a16 (busRead s 0 0xFFFC#16) (busRead s 1 0xFFFD#16), reply := some .resetOk }) ∨
    (isHalt s 0xFFFC#16 = true ∧
      resetCore s = { logCall (.read 0xFFFC#16) (withResetValues s) with reply := some .resetHalted }) ∨
    (isHalt s 0xFFFC#16 = false ∧ isHalt s 0xFFFD#16 = true ∧ resetCore s =
      { logCall (.read 0xFFFD#16) (withReads (withResetValues s) [0xFFFC#16]) with reply := some .resetHalted }) := by
  have hreset : resetCore s = match read16 resetVector (withResetValues s) with
      | .done target t => { t with pc := target, reply := some .resetOk }
      | .halt t => { t with reply := some .resetHalted } := rfl
  rcases read16_cases resetVector (withResetValues s) with ⟨h, h', e⟩ | ⟨h, e⟩ | ⟨h, h', e⟩ <;> rw [e] at hreset
  · exact .inl ⟨h, h', hreset⟩
  · exact .inr (.inl ⟨h, hreset⟩)
  · exact .inr (.inr ⟨h, h', hreset⟩)

theorem callerStep_nil {s : State} (h : s.calls = []) : callerStep s = s := by
  rw [callerStep, h]

theorem callerStep_cons {s : State} {c : Call} {cs : List Call} (h : s.calls = c :: cs) :
    callerStep s = perform c { s with calls := cs, busLog := [] } := by
  rw [callerStep, h]

/-- Settles O57, from the three ways Reset can end. -/
theorem resetLoadsTheVectorAndTheListedState : Obligations.ResetLoadsTheVectorAndTheListedState := by
  rintro s cs s' hrun hcalls rfl
  have hstep : step s = .next (resetCore { s with calls := cs, busLog := [] }) := by
    rw [step_halted hrun, callerStep_cons hcalls]
    rfl
  rw [hstep]
  rcases resetCore_cases { s with calls := cs, busLog := [] } with ⟨h, h', e⟩ | ⟨h, e⟩ | ⟨h, h', e⟩
  · have hlow : isHalt s 0xFFFC#16 = false := h
    have hhigh : isHalt s 0xFFFD#16 = false := h'
    rw [e, hlow, hhigh]
    exact ⟨fun _ _ => rfl, nofun, nofun⟩
  · have hlow : isHalt s 0xFFFC#16 = true := h
    rw [e, hlow]
    exact ⟨nofun, fun _ => rfl, nofun⟩
  · have hlow : isHalt s 0xFFFC#16 = false := h
    have hhigh : isHalt s 0xFFFD#16 = true := h'
    rw [e, hlow, hhigh]
    exact ⟨nofun, nofun, fun _ _ => rfl⟩

end Sys2Proof.Machine
end

section
/-! PROOFS, 40_execution.md and 60_exceptions.md section 3: what every bus-using computation keeps of a state, from one bus call up to
`exec` and a step of a run, and the statements about registers, bus calls, cycles, the end of runs and the invariant assembled from it. -/

namespace Sys2Proof.Machine

open Sys2Proof.Claim

/-- `t` has the value that `s` has in every register not listed. -/
def SameRegsOff (l : List Reg) (s t : State) : Prop := ∀ r, r ∉ l → getReg r t = getReg r s

theorem SameRegsOff.refl (l : List Reg) (s : State) : SameRegsOff l s s := fun _ _ => rfl

theorem SameRegsOff.trans {l : List Reg} {s t u : State} (h : SameRegsOff l s t) (h' : SameRegsOff l t u) :
    SameRegsOff l s u := fun r hr => (h' r hr).trans (h r hr)

theorem SameRegsOff.of_eq {l : List Reg} {s t : State} (ha : t.a = s.a) (hx : t.x = s.x) (hy : t.y = s.y)
    (hsp : t.sp = s.sp) : SameRegsOff l s t := by
  intro r _
  cases r <;> assumption

theorem getReg_setReg (r r' : Reg) (v : Byte) (s : State) :
    getReg r' (setReg r v s) = if r' = r then v else getReg r' s := by
  cases r <;> cases r' <;> rfl

theorem setReg_sameRegsOff (k : Reg) (v : Byte) (s : State) : SameRegsOff [k] s (setReg k v s) := by
  intro r hr
  have hne : r ≠ k := fun h => hr (List.mem_singleton.mpr h)
  rw [getReg_setReg, if_neg hne]

theorem SameRegsOff.mono {l l' : List Reg} {s t : State} (h : SameRegsOff l s t) (hl : l ⊆ l') : SameRegsOff l' s t :=
  fun r hr => h r fun hm => hr (hl hm)

/-- `s` with everything blanked that a bus-using computation may write: what is left is kept by all of them. -/
def control (s : State) : State :=
  { s with a := 0x00#8, x := 0x00#8, y := 0x00#8, sp := 0x00#8, pc := 0x0000#16, flags := resetFlags, mem := [], bus := [],
           busLog := [] }

theorem replay_append (log log' : List BusCall) (bus : List BusService) (m : Memory) :
    replay (log ++ log') bus m = replay log' (bus.drop log.length) (replay log bus m) := by
  induction log generalizing bus m with
  | nil => rfl
  | cons c cs ih => cases c <;> simp [replay, ih]

/-- `t` is reached from `s` by the bus calls `log`, each of them served, and work on the registers, PC and the flags. -/
structure Served (s : State) (log : List BusCall) (t : State) : Prop where
  control_eq : control t = control s
  mem : t.mem = replay log s.bus s.mem
  bus : t.bus = s.bus.drop log.length
  busLog : t.busLog = s.busLog ++ log
  answered : ∀ a, BusCall.read a ∈ log → isHalt s a = false

theorem isHalt_of_control {s t : State} (h : control t = control s) (a : Addr) : isHalt t a = isHalt s a :=
  (congrArg (fun u => isHalt u a) h :)

/-- `t` is `s` with other registers, PC and flags. -/
def RegistersOnly (s t : State) : Prop :=
  t = { s with a := t.a, x := t.x, y := t.y, sp := t.sp, pc := t.pc, flags := t.flags }

theorem Served.of_registers {s t : State} (h : RegistersOnly s t) : Served s [] t where
  control_eq := by rw [h]; rfl
  mem := by rw [h]; rfl
  bus := by rw [h]; rfl
  busLog := by rw [h, List.append_nil]
  answered := nofun

section Kept

variable {s t : State} {log : List BusCall} (h : Served s log t)

include h

theorem Served.cyc : t.cyc = s.cyc := (congrArg State.cyc h.control_eq :)
theorem Served.run : t.run = s.run := (congrArg State.run h.control_eq :)
theorem Served.nmiPending : t.nmiPending = s.nmiPending := (congrArg State.nmiPending h.control_eq :)
theorem Served.haltAddrs : t.haltAddrs = s.haltAddrs := (congrArg State.haltAddrs h.control_eq :)
theorem Served.budget : t.budget = s.budget := (congrArg State.budget h.control_eq :)
theorem Served.irqLine : t.irqLine = s.irqLine := (congrArg State.irqLine h.control_eq :)
theorem Served.nmiEdge : t.nmiEdge = s.nmiEdge := (congrArg State.nmiEdge h.control_eq :)
theorem Served.calls : t.calls = s.calls := (congrArg State.calls h.control_eq :)
theorem Served.reply : t.reply = s.reply := (congrArg State.reply h.control_eq :)

end Kept

theorem Served.trans {s t u : State} {log log' : List BusCall} (h : Served s log t) (h' : Served t log' u) :
    Served s (log ++ log') u where
  control_eq := h'.control_eq.trans h.control_eq
  mem := by rw [h'.mem, h.mem, h.bus, replay_append]
  bus := by rw [h'.bus, h.bus, List.drop_drop, List.length_append]
  busLog := by rw [h'.busLog, h.busLog, List.append_assoc]
  answered a ha := (List.mem_append.mp ha).elim (h.answered a) fun ha =>
    (isHalt_of_control h.control_eq a).symm.trans (h'.answered a ha)

theorem Served.of_memRead {s : State} {a : Addr} (h : isHalt s a = false) : Served s [.read a] (withReads s [a]) where
  control_eq := rfl
  mem := rfl
  bus := rfl
  busLog := rfl
  answered b hb := by
    obtain rfl : b = a := by simpa using hb
    exact h

theorem Served.of_memWrite (a : Addr) (v : Byte) (s : State) : Served s [.write a v] (memWrite a v s) where
  control_eq := rfl
  mem := by
    rw [memWrite_mem, busWrite, serviceAt]
    cases s.bus <;> rfl
  bus := rfl
  busLog := rfl
  answered := by simp

/-- `x`, run from `s`, only makes bus calls and works on the registers listed, PC and the flags: where it is done, its value has the
property `P`; where it halts, it does so at the last of its bus calls, the only one not served (R13, R53). -/
def Access.Runs {α : Type} (l : List Reg) (s : State) (P : α → Prop) (x : Access α) : Prop :=
  match x with
  | .done v t => P v ∧ SameRegsOff l s t ∧ ∃ log, Served s log t
  | .halt t => ∃ u a log, SameRegsOff l s u ∧ Served s log u ∧ isHalt s a = true ∧ t = logCall (.read a) u

section Runs

variable {α β : Type} {l : List Reg} {s t : State} {P : α → Prop} {Q : β → Prop}

theorem Access.Runs.of_served {x : Access α} {log : List BusCall} (hregs : SameRegsOff l s t) (h : Served s log t)
    (hx : x.Runs l t P) : x.Runs l s P := by
  cases x with
  | done v u =>
    obtain ⟨hv, hregs', log', h'⟩ := hx
    exact ⟨hv, hregs.trans hregs', _, h.trans h'⟩
  | halt u =>
    obtain ⟨w, a, log', hregs', h', ha, hu⟩ := hx
    exact ⟨w, a, _, hregs.trans hregs', h.trans h', (isHalt_of_control h.control_eq a).symm.trans ha, hu⟩

theorem Access.Runs.andThen {x : Access α} {f : α → State → Access β} (hx : x.Runs l s P)
    (hf : ∀ v t, P v → (f v t).Runs l t Q) : (x.andThen f).Runs l s Q := by
  cases x with
  | done v u =>
    obtain ⟨hv, hregs, log, h⟩ := hx
    exact .of_served hregs h (hf v u hv)
  | halt u => exact hx

/-- The end of a computation: work on the registers listed, PC and the flags. -/
theorem done_runs {v : α} (hv : P v) (h : RegistersOnly s t) (hregs : SameRegsOff l s t) :
    (Access.done v t).Runs l s P := ⟨hv, hregs, [], .of_registers h⟩

theorem memRead_runs (a : Addr) (s : State) : (memRead a s).Runs l s fun _ => True := by
  rcases memRead_cases a s with ⟨h, e⟩ | ⟨h, e⟩ <;> rw [e]
  · exact ⟨trivial, .refl l s, _, .of_memRead h⟩
  · exact ⟨s, a, [], .refl l s, .of_registers rfl, h, rfl⟩

theorem two_reads_runs (p q : Addr) (f : Byte → Byte → State → α) (s : State) :
    ((memRead p s).andThen fun b t => (memRead q t).andThen fun c u => .done (f b c u) u).Runs l s fun _ => True :=
  (memRead_runs p s).andThen fun _ t _ => (memRead_runs q t).andThen fun _ u _ => done_runs trivial rfl (.refl l u)

theorem resolve_runs (o : Operand) (s : State) : (resolve o s).Runs l s fun _ => True := by
  cases o with
  | ind w => exact two_reads_runs w _ (fun b c _ => Resolved.mk (a16 b c) false) s
  | indX b => exact two_reads_runs _ _ (fun b c _ => Resolved.mk (a16 b c) false) s
  | indY b => exact two_reads_runs _ _ (fun b c u => indexed (a16 b c) u.y) s
  | _ => exact done_runs trivial rfl (.refl l s)

theorem fetchByte_runs (s : State) : (fetchByte s).Runs l s fun _ => True :=
  (memRead_runs s.pc s).andThen fun _ t _ => done_runs trivial rfl (.refl l t)

theorem fetchOperands_runs (m : Mode) (s : State) : (fetchOperands m s).Runs l s fun _ => True := by
  cases m with
  | implied | accumulator => exact done_runs trivial rfl (.refl l s)
  | immediate =>
    exact .of_served (t := { s with pc := s.pc + 1#16 }) (.refl l s) (.of_registers rfl) <|
      (memRead_runs s.pc _).andThen fun _ t _ => done_runs trivial rfl (.refl l t)
  | zeroPage | zeroPageX | zeroPageY | indirectX | indirectY | relative =>
    exact (fetchByte_runs s).andThen fun _ t _ => done_runs trivial rfl (.refl l t)
  | absolute | absoluteX | absoluteY | indirect =>
    exact (fetchByte_runs s).andThen fun _ t _ => (fetchByte_runs t).andThen fun _ u _ => done_runs trivial rfl (.refl l u)

theorem fetchInstr_runs (s : State) : (fetchInstr s).Runs l s fun _ => True := by
  refine (fetchByte_runs s).andThen fun op t _ => ?_
  cases opcodeMode op with
  | none => exact done_runs trivial rfl (.refl l t)
  | some m =>
    refine (fetchOperands_runs m t).andThen fun operands u _ => ?_
    cases decode (op :: operands) <;> exact done_runs trivial rfl (.refl l u)

/-- The two operations on the stack write SP (R60, R61). -/
theorem pull_runs (hsp : .sp ∈ l) (s : State) : (pull s).Runs l s fun _ => True :=
  .of_served ((setReg_sameRegsOff .sp (s.sp + 1#8) s).mono (by simpa using hsp)) (.of_registers rfl) (memRead_runs _ _)

theorem Served.of_push (v : Byte) (s : State) : Served s [.write (stackAddr s.sp) v] (push v s) :=
  (Served.of_memWrite (stackAddr s.sp) v s).trans (.of_registers rfl)

theorem push_sameRegsOff (hsp : .sp ∈ l) (v : Byte) (s : State) : SameRegsOff l s (push v s) :=
  (setReg_sameRegsOff .sp (s.sp - 1#8) s).mono (by simpa using hsp)

theorem entered_sameRegsOff (hsp : .sp ∈ l) (b4 : Bool) (s : State) : SameRegsOff l s (entered b4 s) := by
  intro r hr
  cases r with
  | sp => exact absurd hsp hr
  | _ => simp [getReg, entered]

theorem Served.of_entered (b4 : Bool) (s : State) : ∃ log, Served s log (entered b4 s) :=
  ⟨_, (((Served.of_push (hi s.pc) s).trans (.of_push (lo s.pc) _)).trans (.of_push (pack s.flags b4 true) _)).trans
    (Served.of_registers (t := entered b4 s) rfl)⟩

theorem read16_runs (a : Addr) (s : State) : (read16 a s).Runs l s fun _ => True :=
  two_reads_runs a (a + 1#16) (fun b c _ => a16 b c) s

theorem enter_eq (vector : Addr) (b4 : Bool) (s : State) : enter vector b4 s =
    (read16 vector (entered b4 s)).andThen fun target t => .done () { t with pc := target } := by
  simp only [enter, entered, push_flags, push_pc]

theorem enter_runs (hsp : .sp ∈ l) (vector : Addr) (b4 : Bool) (s : State) :
    (enter vector b4 s).Runs l s fun _ => True := by
  obtain ⟨log, hserved⟩ := Served.of_entered b4 s
  rw [enter_eq]
  exact .of_served (entered_sameRegsOff hsp b4 s) hserved <|
    (read16_runs vector _).andThen fun _ t _ => done_runs trivial rfl (.refl l t)

theorem returnFromInterrupt_runs (hsp : .sp ∈ l) (s : State) : (returnFromInterrupt s).Runs l s fun _ => True :=
  (pull_runs hsp s).andThen fun _ t _ => (pull_runs hsp t).andThen fun _ u _ => (pull_runs hsp u).andThen fun _ w _ =>
    done_runs trivial rfl (.refl l w)

end Runs

/-- What a completed step costs (R85, R119, R270 to R286). -/
abbrev StepCost (n : Nat) : Prop := 2 ≤ n ∧ n ≤ 7

/-- The outcome `o` is that of an instruction run in `s` which works on the registers listed. -/
def Completes (l : List Reg) (s : State) (o : Host.Outcome State Fault Refusal) : Prop :=
  ∃ r : Access Nat, o = complete r ∧ r.Runs l s StepCost

section Shapes

variable {l : List Reg} {s : State} {base : Nat} {o : Operand}

theorem done_completes {t : State} (hbase : StepCost base) (h : RegistersOnly s t) (hregs : SameRegsOff l s t) :
    Completes l s (complete (.done base t)) := ⟨_, rfl, done_runs hbase h hregs⟩

theorem readOperand_completes {x : Extra} {f : Byte → State → State} (hcost : ∀ crossed, StepCost (cost base x crossed false))
    (h : ∀ m u, RegistersOnly u (f m u)) (hregs : ∀ m u, SameRegsOff l u (f m u)) : Completes l s (readOperand base x o f s) :=
  ⟨_, rfl, (resolve_runs o s).andThen fun r t _ => (memRead_runs r.ea t).andThen fun m u _ =>
    done_runs (hcost r.crossed) (h m u) (hregs m u)⟩

theorem storeOperand_completes {v : Byte} (hbase : StepCost base) : Completes l s (storeOperand base o v s) :=
  ⟨_, rfl, (resolve_runs o s).andThen fun r t _ => ⟨hbase, .refl l t, _, .of_memWrite r.ea v t⟩⟩

theorem modifyOperand_completes {f : Byte → Flags → Byte × Flags} (hbase : StepCost base) :
    Completes l s (modifyOperand base o f s) :=
  ⟨_, rfl, (resolve_runs o s).andThen fun r t _ => (memRead_runs r.ea t).andThen fun m u _ =>
    ⟨hbase, .refl l u, _, (Served.of_memWrite r.ea (f m u.flags).1 u).trans (.of_registers rfl)⟩⟩

theorem branchIf_completes {cond : Bool} {off : Byte} : Completes l s (branchIf 2 cond off s) := by
  refine ⟨_, rfl, (resolve_runs (.rel off) s).andThen fun r t _ => ?_⟩
  have hcost : StepCost (cost 2 .branch r.crossed cond) := by
    cases r.crossed <;> cases cond <;> decide
  cases cond <;> exact done_runs hcost rfl (.refl l t)

theorem jumpTo_completes (hbase : StepCost base) : Completes l s (jumpTo base o s) :=
  ⟨_, rfl, (resolve_runs o s).andThen fun _ t _ => done_runs hbase rfl (.refl l t)⟩

end Shapes

theorem execPla_completes (s : State) : Completes [.a, .sp] s (execPla s) :=
  ⟨_, rfl, (pull_runs (by decide) s).andThen fun v t _ => done_runs (by decide) rfl ((setReg_sameRegsOff .a v t).mono (by decide))⟩

theorem execPlp_completes (s : State) : Completes [.sp] s (execPlp s) :=
  ⟨_, rfl, (pull_runs (by decide) s).andThen fun _ t _ => done_runs (by decide) rfl (.refl _ t)⟩

theorem execRts_completes (s : State) : Completes [.sp] s (execRts s) :=
  ⟨_, rfl, (pull_runs (by decide) s).andThen fun _ t _ => (pull_runs (by decide) t).andThen fun _ u _ =>
    done_runs (by decide) rfl (.refl _ u)⟩

theorem execRti_completes (s : State) : Completes [.sp] s (execRti s) :=
  ⟨_, rfl, (returnFromInterrupt_runs (by decide) s).andThen fun _ t _ => done_runs (by decide) rfl (.refl _ t)⟩

theorem execBrk_completes (s : State) : Completes [.sp] s (execBrk s) :=
  ⟨_, rfl, .of_served (t := { s with pc := s.pc + 1#16, flags := { s.flags with b := true } })
    (.of_eq rfl rfl rfl rfl) (.of_registers rfl) <|
      (enter_runs (by decide) irqVector true _).andThen fun _ t _ => done_runs (by decide) rfl (.refl _ t)⟩

theorem push_completes (v : Byte) (s : State) : Completes [.sp] s (complete (.done 3 (push v s))) :=
  ⟨_, rfl, by decide, push_sameRegsOff (by decide) v s, _, .of_push v s⟩

theorem execJsr_completes (w : Addr) (s : State) : Completes [.sp] s (execJsr w s) := by
  have hsp : Reg.sp ∈ [Reg.sp] := List.mem_singleton_self _
  have hregs := (push_sameRegsOff hsp (hi (s.pc - 1#16)) s).trans (push_sameRegsOff hsp (lo (s.pc - 1#16)) _)
  have hserved := (Served.of_push (hi (s.pc - 1#16)) s).trans (.of_push (lo (s.pc - 1#16)) _)
  exact ⟨_, rfl, by decide, hregs.trans (.of_eq rfl rfl rfl rfl), _, hserved.trans (.of_registers rfl)⟩

/-- Row by row: every instruction only makes bus calls and works on its registers, PC and the flags, and costs 2 to 7 cycles. -/
theorem exec_completes (i : Instr) (s : State) : Completes (registersWritten i) s (exec i s) := by
  cases i with
  | ldaImm | adcImm | sbcImm | andImm | oraImm | eorImm | txa | tya | aslAcc | lsrAcc | rolAcc | rorAcc =>
    exact done_completes (by decide) rfl (setReg_sameRegsOff .a _ s)
  | ldxImm | tax | tsx | inx | dex =>
    exact done_completes (by decide) rfl (setReg_sameRegsOff .x _ s)
  | ldyImm | tay | iny | dey =>
    exact done_completes (by decide) rfl (setReg_sameRegsOff .y _ s)
  | txs =>
    exact done_completes (by decide) rfl (setReg_sameRegsOff .sp _ s)
  | cmpImm | cpxImm | cpyImm | clc | sec | cli | sei | cld | sed | clv | nop =>
    exact done_completes (by decide) rfl (.refl _ s)
  | ldaZp | ldaZpX | ldaAbs | ldaAbsX | ldaAbsY | ldaIndX | ldaIndY
  | adcZp | adcZpX | adcAbs | adcAbsX | adcAbsY | adcIndX | adcIndY
  | sbcZp | sbcZpX | sbcAbs | sbcAbsX | sbcAbsY | sbcIndX | sbcIndY
  | andZp | andZpX | andAbs | andAbsX | andAbsY | andIndX | andIndY
  | oraZp | oraZpX | oraAbs | oraAbsX | oraAbsY | oraIndX | oraIndY
  | eorZp | eorZpX | eorAbs | eorAbsX | eorAbsY | eorIndX | eorIndY =>
    exact readOperand_completes (by decide) (fun _ _ => rfl) fun _ u => setReg_sameRegsOff .a _ u
  | ldxZp | ldxZpY | ldxAbs | ldxAbsY =>
    exact readOperand_completes (by decide) (fun _ _ => rfl) fun _ u => setReg_sameRegsOff .x _ u
  | ldyZp | ldyZpX | ldyAbs | ldyAbsX =>
    exact readOperand_completes (by decide) (fun _ _ => rfl) fun _ u => setReg_sameRegsOff .y _ u
  | bitZp | bitAbs | cmpZp | cmpZpX | cmpAbs | cmpAbsX | cmpAbsY | cmpIndX | cmpIndY | cpxZp | cpxAbs | cpyZp | cpyAbs =>
    exact readOperand_completes (by decide) (fun _ _ => rfl) fun _ u => .refl _ u
  | staZp | staZpX | staAbs | staAbsX | staAbsY | staIndX | staIndY | stxZp | stxZpY | stxAbs | styZp | styZpX | styAbs =>
    exact storeOperand_completes (by decide)
  | aslZp | aslZpX | aslAbs | aslAbsX | lsrZp | lsrZpX | lsrAbs | lsrAbsX | rolZp | rolZpX | rolAbs | rolAbsX
  | rorZp | rorZpX | rorAbs | rorAbsX | incZp | incZpX | incAbs | incAbsX | decZp | decZpX | decAbs | decAbsX =>
    exact modifyOperand_completes (by decide)
  | bcc | bcs | beq | bne | bmi | bpl | bvc | bvs => exact branchIf_completes
  | jmpAbs | jmpInd => exact jumpTo_completes (by decide)
  | jsr w => exact execJsr_completes w s
  | rts => exact execRts_completes s
  | pha | php => exact push_completes _ s
  | pla => exact execPla_completes s
  | plp => exact execPlp_completes s
  | brk => exact execBrk_completes s
  | rti => exact execRti_completes s

/-- The state `t` in which a step of a run from `s` ends: the step is completed and costs 2 to 7 cycles, its last bus call halts, or
the run stops for another reason (R101, R122, R290). -/
inductive RunStep (s : State) : State → Prop where
  | completed {u : State} {log : List BusCall} {n : Nat} : Served s log u → StepCost n → RunStep s { u with cyc := u.cyc + n }
  | halted {u : State} {log : List BusCall} {a : Addr} : Served s log u → isHalt s a = true →
      RunStep s (stopRun .halted (logCall (.read a) u))
  | stopped {u : State} {log : List BusCall} (reason : StopReason) : Served s log u → RunStep s (stopRun reason u)

theorem RunStep.of_served {s t u : State} {log : List BusCall} (h : Served s log t) (hu : RunStep t u) : RunStep s u := by
  cases hu with
  | completed h' hn => exact .completed (h.trans h') hn
  | halted h' ha => exact .halted (h.trans h') ((isHalt_of_control h.control_eq _).symm.trans ha)
  | stopped reason h' => exact .stopped reason (h.trans h')

theorem settle_runStep {l : List Reg} {s : State} {r : Access Nat} (h : r.Runs l s StepCost) : RunStep s (settle r) := by
  cases r with
  | done n t =>
    obtain ⟨hn, -, _, ht⟩ := h
    exact .completed ht hn
  | halt t =>
    obtain ⟨u, a, _, -, hu, ha, rfl⟩ := h
    exact .halted hu ha

theorem exec_runStep (i : Instr) (s : State) : ∃ t, exec i s = .next t ∧ RunStep s t := by
  obtain ⟨r, e, h⟩ := exec_completes i s
  exact ⟨_, e, settle_runStep h⟩

theorem fetchStep_runStep (s : State) : ∃ t, fetchStep s = .next t ∧ RunStep s t := by
  have h := fetchInstr_runs (l := []) s
  unfold fetchStep
  cases e : fetchInstr s with
  | halt t =>
    rw [e] at h
    obtain ⟨u, a, _, -, hu, ha, rfl⟩ := h
    exact ⟨_, rfl, .halted hu ha⟩
  | done f t =>
    rw [e] at h
    obtain ⟨-, -, log, ht⟩ := h
    cases f with
    | illegal op => exact ⟨_, rfl, .of_served ht (.stopped (.illegalOpcode op) (.of_registers rfl))⟩
    | instr i =>
      obtain ⟨u, e, hu⟩ := exec_runStep i t
      exact ⟨u, e, .of_served ht hu⟩

theorem irqEntry_runStep (s : State) : RunStep s (irqEntry s) :=
  settle_runStep (l := [.sp]) <| (enter_runs (by decide) irqVector false s).andThen fun _ t _ =>
    done_runs (by decide) rfl (.refl _ t)

theorem nmiEntry_runStep (s : State) : RunStep { s with nmiPending := false } (nmiEntry s) :=
  settle_runStep (l := [.sp]) <| (enter_runs (by decide) nmiVector false _).andThen fun _ t _ =>
    done_runs (by decide) rfl (.refl _ t)

/-- Every step of a run is one of these, from a state that differs from `s` in the inputs, the NMI latch and the emptied bus log. -/
theorem step_runStep {s : State} (h : s.run = .running) : ∃ t nmi irq edge, step s = .next t ∧
    RunStep { s with busLog := [], nmiPending := nmi, irqLine := irq, nmiEdge := edge } t := by
  rcases boundary_cases { s with busLog := [] } with ⟨_, e⟩ | ⟨_, _, e⟩ | ⟨_, _, _, e⟩ | ⟨_, _, _, e⟩
  · exact ⟨_, _, _, _, step_over h e, .stopped .budgetExhausted (.of_registers rfl)⟩
  · exact ⟨_, _, _, _, step_over h e, nmiEntry_runStep (sampleInputs { s with busLog := [] })⟩
  · exact ⟨_, _, _, _, step_over h e, irqEntry_runStep _⟩
  · obtain ⟨t, e', ht⟩ := fetchStep_runStep (sampleInputs { s with busLog := [] })
    exact ⟨t, _, _, _, (step_fetch h e).trans e', ht⟩

/-- Settles O41: an instruction and a step of a run end as `RunStep` says, and a Halted core takes its caller's operation. -/
theorem everyStepAnswersANextState : Obligations.EveryStepAnswersANextState := by
  refine ⟨fun i s => ?_, fun s => ?_⟩
  · obtain ⟨t, e, -⟩ := exec_runStep i s
    exact ⟨t, e⟩
  · cases h : s.run with
    | halted => exact ⟨_, step_halted h⟩
    | running =>
      obtain ⟨t, _, _, _, e, -⟩ := step_runStep h
      exact ⟨t, e⟩

/-- Settles O44: registers by the list of the row, the other fields because no bus-using computation writes them. -/
theorem onlyTheListedInstructionsWriteRegisters : Obligations.OnlyTheListedInstructionsWriteRegisters := by
  intro i s t h
  obtain ⟨r, e, hr⟩ := exec_completes i s
  obtain rfl : settle r = t := Host.Outcome.next.inj (e.symm.trans h)
  cases r with
  | done n u =>
    obtain ⟨-, hregs, _, hu⟩ := hr
    exact ⟨hregs, hu.nmiPending, hu.haltAddrs, hu.budget, hu.irqLine, hu.nmiEdge, hu.calls⟩
  | halt u =>
    obtain ⟨w, a, _, hregs, hw, -, rfl⟩ := hr
    exact ⟨hregs, hw.nmiPending, hw.haltAddrs, hw.budget, hw.irqLine, hw.nmiEdge, hw.calls⟩

theorem replay_read (a : Addr) (bus : List BusService) (m : Memory) : replay [.read a] bus m = m := rfl

theorem servedCalls_append (s : State) (log log' : List BusCall) :
    servedCalls s (log ++ log') = servedCalls s log ++ servedCalls s log' := List.filter_append ..

theorem Served.servedCalls_eq {s t : State} {log : List BusCall} (h : Served s log t) : servedCalls s log = log := by
  refine List.filter_eq_self.mpr fun c hc => ?_
  cases c with
  | read a => simp [h.answered a hc]
  | write a v => rfl

theorem servedCalls_halting {s : State} {a : Addr} (h : isHalt s a = true) : servedCalls s [.read a] = [] := by
  simp [servedCalls, h]

theorem RunStep.mem_and_bus {s t : State} (h : RunStep s t) (hlog : s.busLog = []) :
    t.mem = replay t.busLog s.bus s.mem ∧ t.bus = s.bus.drop (servedCalls s t.busLog).length := by
  have hserved {u : State} {log : List BusCall} (hu : Served s log u) :
      u.mem = replay u.busLog s.bus s.mem ∧ u.bus = s.bus.drop (servedCalls s u.busLog).length := by
    rw [hu.busLog, hlog, List.nil_append, hu.servedCalls_eq]
    exact ⟨hu.mem, hu.bus⟩
  cases h with
  | completed hu _ => exact (hserved hu :)
  | stopped _ hu => exact (hserved hu :)
  | halted hu ha =>
    rw [stopRun_mem, stopRun_bus, stopRun_busLog, logCall_mem, logCall_bus, logCall_busLog, servedCalls_append,
      servedCalls_halting ha, List.append_nil, replay_append, replay_read]
    exact hserved hu

/-- Settles O45, from what every step of a run does with the bus. -/
theorem memoryChangesOnlyByTheBusWritesOfTheStep : Obligations.MemoryChangesOnlyByTheBusWritesOfTheStep := by
  intro s t hrun h
  obtain ⟨u, _, _, _, e, hu⟩ := step_runStep hrun
  obtain rfl : u = t := Host.Outcome.next.inj (e.symm.trans h)
  exact hu.mem_and_bus rfl

theorem RunStep.halting_read {s t : State} (h : RunStep s t) (hlog : s.busLog = []) {before after : List BusCall} {a : Addr}
    (e : t.busLog = before ++ .read a :: after) (ha : isHalt s a = true) :
    after = [] ∧ t.run = .halted ∧ t.cyc = s.cyc ∧ t.reply = some (.ran s.cyc .halted) := by
  have notServed {u : State} {log : List BusCall} (hu : Served s log u) : BusCall.read a ∉ log := fun hm => by
    simp [hu.answered a hm] at ha
  have notLogged {u : State} {log : List BusCall} (hu : Served s log u) : BusCall.read a ∉ u.busLog := by
    rw [hu.busLog, hlog]
    exact notServed hu
  have hmem : BusCall.read a ∈ t.busLog := e ▸ List.mem_append_right _ List.mem_cons_self
  cases h with
  | completed hu _ => exact absurd hmem (notLogged hu :)
  | stopped _ hu => exact absurd hmem (notLogged hu :)
  | halted hu _ =>
    refine ⟨?_, rfl, hu.cyc, congrArg (fun c => some (Reply.ran c .halted)) hu.cyc⟩
    rcases List.eq_nil_or_concat after with rfl | ⟨after', c, rfl⟩
    · rfl
    · rw [stopRun_busLog, logCall_busLog, hu.busLog, hlog, List.nil_append, List.concat_eq_append, ← List.cons_append,
        ← List.append_assoc] at e
      have := (List.append_inj' e rfl).1
      exact absurd (this ▸ List.mem_append_right _ List.mem_cons_self) (notServed hu)

/-- Settles O46. -/
theorem noBusCallFollowsAHaltingRead : Obligations.NoBusCallFollowsAHaltingRead := by
  intro s t before after a hrun h elog ha
  obtain ⟨u, _, _, _, e, hu⟩ := step_runStep hrun
  obtain rfl : u = t := Host.Outcome.next.inj (e.symm.trans h)
  exact hu.halting_read rfl elog ha

/-- Settles O47. -/
theorem eachStepOfARunCostsTwoToSevenOrEndsIt : Obligations.EachStepOfARunCostsTwoToSevenOrEndsIt := by
  intro s t hrun h
  obtain ⟨u, _, _, _, e, hu⟩ := step_runStep hrun
  obtain rfl : u = t := Host.Outcome.next.inj (e.symm.trans h)
  cases hu with
  | @completed w _ n hw hn =>
    refine ⟨.inl ⟨hw.run.trans hrun, ?_⟩, hw.budget, hw.haltAddrs, hw.calls⟩
    have hcyc : w.cyc = s.cyc := hw.cyc
    dsimp only
    omega
  | halted hw _ => exact ⟨.inr ⟨rfl, hw.cyc⟩, hw.budget, hw.haltAddrs, hw.calls⟩
  | stopped _ hw => exact ⟨.inr ⟨rfl, hw.cyc⟩, hw.budget, hw.haltAddrs, hw.calls⟩

/-- Settles O53: the boundary tests the budget first. -/
theorem anExhaustedBudgetStopsBeforeAnythingElse : Obligations.AnExhaustedBudgetStopsBeforeAnythingElse := fun _ hrun hbudget =>
  step_over hrun (if_pos hbudget)

theorem core_run_succ {s t : State} (h : step s = .next t) (k : Nat) :
    Host.Core.run Sys2Proof.core (k + 1) s = Host.Core.run Sys2Proof.core k t := by
  have h' : Sys2Proof.core.step s = .next t := h
  simp [Host.Core.run, h']

/-- A step that does not end the run leaves at least two cycles fewer, and at an exhausted budget there is none. -/
theorem run_ends_within (n : Nat) (s : State) (hrun : s.run = .running) (hn : s.budget - s.cyc ≤ 2 * n) :
    ∃ k t, k ≤ n + 1 ∧ Host.Core.run Sys2Proof.core k s = .next t ∧ t.run = .halted := by
  induction n generalizing s with
  | zero =>
    have h := anExhaustedBudgetStopsBeforeAnythingElse s hrun (by omega)
    exact ⟨1, _, by decide, core_run_succ h 0, rfl⟩
  | succ n ih =>
    obtain ⟨t, _, _, _, e, -⟩ := step_runStep hrun
    obtain ⟨⟨hrunning, hlow, -⟩ | ⟨hhalted, -⟩, hbudget, -⟩ := eachStepOfARunCostsTwoToSevenOrEndsIt s t hrun e
    · obtain ⟨k, u, hk, hu, hhalted⟩ := ih t hrunning (by omega)
      exact ⟨k + 1, u, by omega, (core_run_succ e k).trans hu, hhalted⟩
    · exact ⟨1, t, by omega, core_run_succ e 0, hhalted⟩

/-- Settles O48: half the cycles left, rounded up, bound the steps before the budget is exhausted. -/
theorem everyRunEnds : Obligations.EveryRunEnds := fun s hrun =>
  run_ends_within ((s.budget - s.cyc + 1) / 2) s hrun (by omega)

theorem replay_wf (log : List BusCall) (bus : List BusService) (m : Memory) (h : Memory.wf m = true) :
    Memory.wf (replay log bus m) = true := by
  induction log generalizing bus m with
  | nil => exact h
  | cons c cs ih =>
    cases c with
    | read a => exact ih _ _ h
    | write a v =>
      refine ih _ _ ?_
      split
      · exact Memory.wf_write m a.toNat v h a.isLt
      · exact h

theorem Served.wf {s t : State} {log : List BusCall} (h : Served s log t) (hwf : Memory.wf s.mem = true) :
    Memory.wf t.mem = true := h.mem ▸ replay_wf log s.bus s.mem hwf

theorem stopRun_replyAgrees (reason : StopReason) (s : State) : ReplyAgrees (stopRun reason s) := by
  refine ⟨nofun, fun cyc r h => ?_⟩
  cases h
  rfl

theorem RunStep.inv {s t : State} (h : RunStep s t) (hrun : s.run = .running) (hinv : s.Inv) : t.Inv := by
  obtain ⟨hwf, hreply, -⟩ := hinv
  cases h with
  | completed hu _ =>
    have hnone := hu.reply.trans (hreply hrun)
    exact ⟨hu.wf hwf, fun _ => hnone, fun cyc r h => by simp [hnone] at h⟩
  | halted hu _ => exact ⟨hu.wf hwf, stopRun_replyAgrees _ _⟩
  | stopped _ hu => exact ⟨hu.wf hwf, stopRun_replyAgrees _ _⟩

theorem resetCore_inv {s : State} (hrun : s.run = .halted) (hinv : s.Inv) : (resetCore s).Inv := by
  obtain ⟨hwf, -⟩ := hinv
  rcases resetCore_cases s with ⟨_, _, e⟩ | ⟨_, e⟩ | ⟨_, _, e⟩ <;>
  · rw [e]
    exact ⟨hwf, fun h => absurd (hrun.symm.trans h) nofun, nofun⟩

theorem callerStep_inv {s : State} (hrun : s.run = .halted) (hinv : s.Inv) : (callerStep s).Inv := by
  cases hcalls : s.calls with
  | nil => rwa [callerStep_nil hcalls]
  | cons c cs =>
    rw [callerStep_cons hcalls]
    cases c with
    | setReg r v => cases r <;> exact hinv
    | setPc v => exact hinv
    | setFlag f b => exact hinv
    | reset => exact resetCore_inv hrun hinv
    | run budget cyc irq nmi => exact ⟨hinv.1, fun _ => rfl, nofun⟩

/-- Settles O59: the bus writes of a step keep the canonical form, and every stop answers with the cycle counter as it stands. -/
theorem everyStepKeepsTheInvariant : Obligations.EveryStepKeepsTheInvariant := by
  intro s t hinv h
  cases hrun : s.run with
  | halted =>
    obtain rfl := Host.Outcome.next.inj ((step_halted hrun).symm.trans h)
    exact callerStep_inv hrun hinv
  | running =>
    obtain ⟨u, _, _, _, e, hu⟩ := step_runStep hrun
    obtain rfl : u = t := Host.Outcome.next.inj (e.symm.trans h)
    exact hu.inv hrun hinv

/-- Settles O60. -/
theorem theResetStateMeetsTheInvariant : Obligations.TheResetStateMeetsTheInvariant :=
  have construct (m bus halts) (h : Memory.wf m = true) : (State.construct m bus halts).Inv := ⟨h, nofun, nofun⟩
  ⟨construct, construct [] [] Config.defaultHaltAddrs rfl⟩

end Sys2Proof.Machine
end

section
/-! PROOFS, 40_execution.md section 5: the instructions that only read before a halt, those that pull, and the statement about the
table of halted instructions assembled from them. -/

namespace Sys2Proof.Machine

open Sys2Proof.Claim

/-- Whatever follows the fetch either leaves RUN as it was or halts having only read (R122). -/
def HaltsOnlyReading (s : State) (o : Host.Outcome State Fault Refusal) : Prop :=
  (∃ t, o = .next t ∧ t.run = s.run) ∨
    ∃ reads a, o = .next (stopRun .halted (logCall (.read a) (withReads s reads)))

section OnlyReading

variable {s : State} {base : Nat} {o : Operand}

theorem readOperand_haltsOnlyReading {x : Extra} {f : Byte → State → State} (hf : ∀ m u, (f m u).run = u.run) :
    HaltsOnlyReading s (readOperand base x o f s) := by
  rcases readOperand_cases base x o f s with ⟨r, reads, -, -, e⟩ | ⟨reads, a, -, e⟩
  · exact .inl ⟨_, e, hf _ _⟩
  · exact .inr ⟨reads, a, e⟩

theorem storeOperand_haltsOnlyReading {v : Byte} : HaltsOnlyReading s (storeOperand base o v s) := by
  rcases storeOperand_cases base o v s with ⟨r, reads, -, e⟩ | ⟨reads, a, -, e⟩
  · exact .inl ⟨_, e, rfl⟩
  · exact .inr ⟨reads, a, e⟩

theorem modifyOperand_haltsOnlyReading {f : Byte → Flags → Byte × Flags} :
    HaltsOnlyReading s (modifyOperand base o f s) := by
  rcases modifyOperand_cases base o f s with ⟨r, reads, -, -, e⟩ | ⟨reads, a, -, e⟩
  · exact .inl ⟨_, e, rfl⟩
  · exact .inr ⟨reads, a, e⟩

theorem branchIf_haltsOnlyReading {cond : Bool} {off : Byte} : HaltsOnlyReading s (branchIf base cond off s) :=
  .inl ⟨_, branchIf_eq base cond off s, by cases cond <;> rfl⟩

theorem jumpTo_haltsOnlyReading : HaltsOnlyReading s (jumpTo base o s) := by
  rcases jumpTo_cases base o s with ⟨r, reads, -, e⟩ | ⟨reads, a, -, e⟩
  · exact .inl ⟨_, e, rfl⟩
  · exact .inr ⟨reads, a, e⟩

end OnlyReading

/-- The instructions that read the stack, or write before their last read. -/
def stackReaders : List Instr := [.pla, .plp, .rts, .rti, .brk]

theorem exec_haltsOnlyReading {i : Instr} (hi : i ∉ stackReaders) (s : State) : HaltsOnlyReading s (exec i s) := by
  cases i with
  | ldaZp | ldaZpX | ldaAbs | ldaAbsX | ldaAbsY | ldaIndX | ldaIndY | ldxZp | ldxZpY | ldxAbs | ldxAbsY
  | ldyZp | ldyZpX | ldyAbs | ldyAbsX | adcZp | adcZpX | adcAbs | adcAbsX | adcAbsY | adcIndX | adcIndY
  | sbcZp | sbcZpX | sbcAbs | sbcAbsX | sbcAbsY | sbcIndX | sbcIndY
  | andZp | andZpX | andAbs | andAbsX | andAbsY | andIndX | andIndY
  | oraZp | oraZpX | oraAbs | oraAbsX | oraAbsY | oraIndX | oraIndY
  | eorZp | eorZpX | eorAbs | eorAbsX | eorAbsY | eorIndX | eorIndY
  | bitZp | bitAbs | cmpZp | cmpZpX | cmpAbs | cmpAbsX | cmpAbsY | cmpIndX | cmpIndY | cpxZp | cpxAbs | cpyZp | cpyAbs =>
    exact readOperand_haltsOnlyReading fun _ _ => rfl
  | staZp | staZpX | staAbs | staAbsX | staAbsY | staIndX | staIndY | stxZp | stxZpY | stxAbs | styZp | styZpX | styAbs =>
    exact storeOperand_haltsOnlyReading
  | aslZp | aslZpX | aslAbs | aslAbsX | lsrZp | lsrZpX | lsrAbs | lsrAbsX | rolZp | rolZpX | rolAbs | rolAbsX
  | rorZp | rorZpX | rorAbs | rorAbsX | incZp | incZpX | incAbs | incAbsX | decZp | decZpX | decAbs | decAbsX =>
    exact modifyOperand_haltsOnlyReading
  | bcc | bcs | beq | bne | bmi | bpl | bvc | bvs => exact branchIf_haltsOnlyReading
  | jmpAbs | jmpInd => exact jumpTo_haltsOnlyReading
  | jsr w => exact .inl ⟨_, rfl, by simp only [settle_done, push_run]⟩
  | pla | plp | rts | rti | brk => exact absurd (by decide) hi
  | _ => exact .inl ⟨_, rfl, rfl⟩

/-- A computation of pulls from `s`, past `reads`, either leaves RUN as it was or halts on one of at most three pulls, SP raised for
each of them (R61). -/
def Access.HaltsPulling (s : State) (x : Access Nat) : Prop :=
  match x with
  | .done _ t => t.run = s.run
  | .halt t => ∃ reads a n, n.toNat = reads.length + 1 ∧ reads.length < 3 ∧ t = logCall (.read a) (pulled s reads n)

theorem pull_haltsPulling {s : State} {reads : List Addr} {n : Byte} {f : Byte → State → Access Nat}
    (hn : n.toNat = reads.length) (hlt : reads.length < 3)
    (hf : ∀ v p, (f v (pulled s (reads ++ [p]) (n + 1#8))).HaltsPulling s) :
    ((pull (pulled s reads n)).andThen f).HaltsPulling s := by
  cases h : isHalt s (stackAddr (s.sp + (n + 1#8))) with
  | false =>
    rw [pull_pulled_done h]
    exact hf _ _
  | true =>
    rw [pull_pulled_halt h]
    exact ⟨reads, _, n + 1#8, by bv_omega, hlt, rfl⟩

theorem pulled_zero (s : State) (reads : List Addr) : pulled s reads 0x00#8 = withReads s reads := by
  simp [pulled, withReads]

theorem first_pull_haltsPulling {s : State} {f : Byte → State → Access Nat}
    (hf : ∀ v p, (f v (pulled s [p] 1#8)).HaltsPulling s) : ((pull s).andThen f).HaltsPulling s := by
  have h := pull_haltsPulling (s := s) (reads := []) (n := 0x00#8) rfl (by decide) hf
  rwa [pulled_zero, withReads_nil] at h

theorem andThen_assoc {α β γ : Type} (x : Access α) (f : α → State → Access β) (g : β → State → Access γ) :
    (x.andThen f).andThen g = x.andThen fun v t => (f v t).andThen g := by
  cases x <;> rfl

theorem returnFromInterrupt_haltsPulling (s : State) :
    ((returnFromInterrupt s).andThen fun _ t => .done 6 t).HaltsPulling s := by
  rw [returnFromInterrupt, andThen_assoc]
  refine first_pull_haltsPulling fun _ p => ?_
  rw [andThen_assoc]
  refine pull_haltsPulling rfl (by simp) fun _ q => ?_
  rw [andThen_assoc]
  exact pull_haltsPulling rfl (by simp) fun _ _ => rfl

theorem exec_haltsPulling {i : Instr} (hi : i = .pla ∨ i = .plp ∨ i = .rts ∨ i = .rti) (s : State) :
    ∃ r, exec i s = complete r ∧ r.HaltsPulling s := by
  rcases hi with rfl | rfl | rfl | rfl
  · exact ⟨_, rfl, first_pull_haltsPulling fun _ _ => rfl⟩
  · exact ⟨_, rfl, first_pull_haltsPulling fun _ _ => rfl⟩
  · exact ⟨_, rfl, first_pull_haltsPulling fun _ p => pull_haltsPulling rfl (by simp) fun _ _ => rfl⟩
  · exact ⟨_, rfl, returnFromInterrupt_haltsPulling s⟩

/-- A halting read past others, each of them a pull or none: the last one is not served (R53). -/
theorem stopRun_pulled_eq (s : State) (reads : List Addr) (a : Addr) (n : Byte) :
    stopRun .halted (logCall (.read a) (pulled s reads n)) =
      { haltedWith s (s.bus.drop ((reads ++ [a]).length - 1)) (s.busLog ++ (reads ++ [a]).map BusCall.read) with
        sp := s.sp + n } := by
  simp [stopRun, logCall, pulled, withReads, haltedWith]

/-- Settles O42: the instructions that pull, and those that only read. -/
theorem haltedInstructionsLeaveTheStateOfTheTable : Obligations.HaltedInstructionsLeaveTheStateOfTheTable := by
  intro i s t hrun h hhalted hbrk
  have notRunning {u : State} (hu : u.run = s.run) : u.run ≠ .halted := by simp [hu, hrun]
  by_cases hpulls : i = .pla ∨ i = .plp ∨ i = .rts ∨ i = .rti
  · obtain ⟨r, e, hr⟩ := exec_haltsPulling hpulls s
    obtain rfl : settle r = t := Host.Outcome.next.inj (e.symm.trans h)
    cases r with
    | done n u => exact absurd hhalted (notRunning hr)
    | halt u =>
      obtain ⟨reads, a, n, hn, hlt, rfl⟩ := hr
      exact ⟨reads ++ [a], n, by simp, stopRun_pulled_eq s reads a n, fun _ => ⟨by simpa using hn, by omega⟩,
        fun h1 h2 h3 h4 => absurd hpulls (by simp [h1, h2, h3, h4])⟩
  · have hi : i ∉ stackReaders := by
      simp only [stackReaders, List.mem_cons, List.not_mem_nil, or_false, ← or_assoc, not_or] at hpulls ⊢
      exact ⟨hpulls, hbrk⟩
    rcases exec_haltsOnlyReading hi s with ⟨u, e, hu⟩ | ⟨reads, a, e⟩
    · obtain rfl : u = t := Host.Outcome.next.inj (e.symm.trans h)
      exact absurd hhalted (notRunning hu)
    · obtain rfl := Host.Outcome.next.inj (e.symm.trans h)
      rw [← pulled_zero]
      exact ⟨reads ++ [a], 0x00#8, by simp, stopRun_pulled_eq s reads a 0x00#8, fun hp => absurd hp hpulls, by simp⟩

end Sys2Proof.Machine
end

section
/-! PROOFS, 48_stack_flag_nop.md: a push and a pull as whole instructions, and the statements about the stack and flag instructions. -/

namespace Sys2Proof.Machine

open Sys2Proof.Claim

/-- Settles O34: both instructions are one push, of A or of the status byte. -/
theorem pushInstructionsStoreOnTheStack : Obligations.PushInstructionsStoreOnTheStack := by
  refine fun s => ⟨rfl, rfl, fun i v hi => ?_⟩
  have hexec : exec i s = complete (.done 3 (push v s)) := by
    rcases hi with ⟨rfl, rfl⟩ | ⟨rfl, rfl⟩ <;> rfl
  have hmem := readByte_push v s
  exact ⟨_, hexec, rfl, (hmem _).trans (if_pos rfl), fun a ha => (hmem a).trans (if_neg ha)⟩

/-- Settles O35, from the two ways a pull can end. -/
theorem pullInstructionsLoadFromTheStack : Obligations.PullInstructionsLoadFromTheStack := by
  rintro s p rfl
  have hpla : exec .pla s = complete ((pull s).andThen fun v t => .done 4 (loadA v t)) := rfl
  have hplp : exec .plp s = complete ((pull s).andThen fun v t => .done 4 { t with flags := unpack v }) := rfl
  rw [hpla, hplp]
  refine ⟨rfl, rfl, fun hanswers => ?_, fun hhalts => ?_⟩
  · rw [pull_done hanswers, ← setZN_eq_zn]
    exact ⟨rfl, rfl⟩
  · rw [pull_halt hhalts]
    exact ⟨rfl, rfl⟩

/-- Settles O36: each instruction is internal, and its effect is the write of its flag. -/
theorem flagInstructionsWriteOneFlag : Obligations.FlagInstructionsWriteOneFlag := by
  refine ⟨?clc, ?sec, ?cli, ?sei, ?cld, ?sed, ?clv, ?nop⟩
  all_goals exact impliedForm_of_internal (fun _ _ _ _ => rfl) rfl rfl

end Sys2Proof.Machine
end

section
/-! PROOFS, 10_state.md section 3: the status byte bit by bit, and the statement about its layout. -/

namespace Sys2Proof.Machine

theorem decide_eq_one_of_eq_toNat {n : Nat} {b : Bool} (h : n = b.toNat) : decide (n = 1) = b := by
  cases b <;> simp [h]

/-- The layout of the status byte, from its value as a number (R27). -/
theorem getLsbD_pack (f : Flags) (b4 b5 : Bool) (k : Nat) :
    (pack f b4 b5).getLsbD k = [f.c, f.z, f.i, f.d, b4, b5, f.v, f.n].getD k false := by
  have hc := f.c.toNat_le
  have hz := f.z.toNat_le
  have hi := f.i.toNat_le
  have hd := f.d.toNat_le
  have h4 := b4.toNat_le
  have h5 := b5.toNat_le
  have hv := f.v.toNat_le
  have hn := f.n.toNat_le
  rw [pack, BitVec.getLsbD_ofNat, Nat.testBit_eq_decide_div_mod_eq]
  match k with
  | 0 | 1 | 2 | 3 | 4 | 5 | 6 | 7 =>
    refine decide_eq_one_of_eq_toNat ?_
    simp only [List.getD_cons_zero, List.getD_cons_succ]
    omega
  | k + 8 =>
    have hbit : decide (k + 8 < 8) = false := decide_eq_false (by omega)
    rw [hbit, Bool.false_and]
    rfl

theorem unpack_pack (f : Flags) (b4 b5 : Bool) : unpack (pack f b4 b5) = { f with b := b4 } := by
  simp only [unpack, getLsbD_pack]
  rfl

/-- Settles O9, from the layout. -/
theorem statusBytePacksAndUnpacks : Obligations.StatusBytePacksAndUnpacks := by
  refine ⟨fun f b4 b5 => ⟨?bits, ?unpackPack⟩, fun p => ⟨?bitFive, ?packUnpack⟩, fun _ => rfl⟩
  case bits =>
    rw [funext (getLsbD_pack f b4 b5)]
    rfl
  case unpackPack => exact unpack_pack f b4 b5
  case bitFive => simp [unpack]
  case packUnpack =>
    refine BitVec.eq_of_getLsbD_eq fun k hk => ?_
    rw [getLsbD_pack]
    match k with
    | 0 | 1 | 2 | 3 | 4 | 5 | 6 | 7 => rfl
    | k + 8 => omega

end Sys2Proof.Machine
end

section
/-! PROOFS, 20_memory.md section 6: what a canonical memory lists, and the statement that its reads determine it. -/

namespace Sys2Proof.Machine

theorem Memory.read_eq_fill {m : Memory} {l : Nat} (h : Memory.wfAbove (some l) m = true) {a : Nat} (ha : a ≤ l) :
    Memory.read m a = Config.memFill := by
  induction m generalizing l with
  | nil => rfl
  | cons p m ih =>
    obtain ⟨k, v⟩ := p
    obtain ⟨hl, -, -, hm⟩ := (Memory.wfAbove_cons ..).mp h
    have hk := hl l rfl
    rw [Memory.read_cons, if_neg (by omega)]
    exact ih hm (by omega)

/-- The first address that a memory lists reads as its entry, every smaller one as filled, and the rest lists larger ones. -/
theorem Memory.wfAbove_head {k : Nat} {v : Byte} {m : Memory} {low : Option Nat}
    (h : Memory.wfAbove low ((k, v) :: m) = true) :
    Memory.read ((k, v) :: m) k ≠ Config.memFill ∧
    (∀ a < k, Memory.read ((k, v) :: m) a = Config.memFill) ∧ Memory.wfAbove (some k) m = true := by
  obtain ⟨-, -, hv, hm⟩ := (Memory.wfAbove_cons ..).mp h
  refine ⟨by rwa [Memory.read_cons, if_pos rfl], fun a ha => ?_, hm⟩
  rw [Memory.read_cons, if_neg (by omega)]
  exact Memory.read_eq_fill hm (Nat.le_of_lt ha)

/-- Where both lists have a first entry, it is the same: the smaller address would read as filled in the other list. -/
theorem Memory.eq_of_read_eq {m m' : Memory} {low low' : Option Nat} (h : Memory.wfAbove low m = true)
    (h' : Memory.wfAbove low' m' = true) (hread : ∀ a, Memory.read m a = Memory.read m' a) : m = m' := by
  induction m generalizing m' low low' with
  | nil =>
    cases m' with
    | nil => rfl
    | cons p' m' => exact absurd (hread p'.1).symm (Memory.wfAbove_head h').1
  | cons p m ih =>
    obtain ⟨k, v⟩ := p
    obtain ⟨hentry, hbelow, hm⟩ := Memory.wfAbove_head h
    cases m' with
    | nil => exact absurd (hread k) hentry
    | cons p' m' =>
      obtain ⟨k', v'⟩ := p'
      obtain ⟨hentry', hbelow', hm'⟩ := Memory.wfAbove_head h'
      obtain hlt | rfl | hgt := Nat.lt_trichotomy k k'
      · exact absurd ((hread k).trans (hbelow' k hlt)) hentry
      · have hv := hread k
        rw [Memory.read_cons, Memory.read_cons, if_pos rfl, if_pos rfl] at hv
        have hrest (a : Nat) : Memory.read m a = Memory.read m' a := by
          by_cases ha : k = a
          · rw [Memory.read_eq_fill hm (Nat.le_of_eq ha.symm), Memory.read_eq_fill hm' (Nat.le_of_eq ha.symm)]
          · have := hread a
            rwa [Memory.read_cons, Memory.read_cons, if_neg ha, if_neg ha] at this
        rw [hv, ih hm hm' hrest]
      · exact absurd ((hread k').symm.trans (hbelow k' hgt)) hentry'

/-- Settles O6, entry by entry. -/
theorem canonicalMemoriesThatReadAlikeAreEqual : Obligations.CanonicalMemoriesThatReadAlikeAreEqual := fun _ _ h h' hread =>
  Memory.eq_of_read_eq h h' hread

end Sys2Proof.Machine
end

section
/-! PROOFS, 49_break_interrupt.md and 60_exceptions.md: the frame that an entry saves, the two ways an entry can end, the return from
it, and the statements about BRK, RTI, NMI and IRQ assembled from them. -/

namespace Sys2Proof.Machine

open Sys2Proof.Claim

/-- The bytes of a frame lie at different addresses, across the end of page 1 too (R25). -/
theorem stackAddr_sub_ne {j k : Byte} (h : j ≠ k) (p : Byte) : stackAddr (p - j) ≠ stackAddr (p - k) := fun e =>
  h ((BitVec.sub_right_inj p).mp (stackAddr_inj.mp e))

theorem ne_stackAddr {a : Addr} (h : 512 ≤ a.toNat) (p : Byte) : a ≠ stackAddr p := by
  have := p.isLt
  rintro rfl
  rw [stackAddr_toNat] at h
  omega

theorem readByte_entered (b4 : Bool) (s : State) (b : Addr) : readByte (entered b4 s) b =
    if b = stackAddr (s.sp - 2#8) then storedByte s 2 (stackAddr (s.sp - 2#8)) (pack s.flags b4 true)
    else readByte (push (lo s.pc) (push (hi s.pc) s)) b := by
  have hkept : readByte (push (lo s.pc) (push (hi s.pc) s)) (stackAddr (s.sp - 2#8)) = readByte s (stackAddr (s.sp - 2#8)) := by
    have hne : stackAddr (s.sp - 2#8) ≠ stackAddr s.sp := by
      simpa using stackAddr_sub_ne (j := 2#8) (k := 0#8) (by decide) s.sp
    rw [readByte_push_push, if_neg (stackAddr_sub_ne (by decide) _), if_neg hne]
  have hsp : (push (lo s.pc) (push (hi s.pc) s)).sp = s.sp - 2#8 := by
    simp [BitVec.sub_sub]
  have hbus : (push (lo s.pc) (push (hi s.pc) s)).bus = s.bus.drop 2 := by
    simp
  have hpush := readByte_push (pack s.flags b4 true) (push (lo s.pc) (push (hi s.pc) s)) b
  rw [hsp, storedByte_of_drop hbus hkept] at hpush
  exact hpush

theorem frameSaved_entered (b4 : Bool) (s : State) : FrameSaved s (entered b4 s) s.pc (pack s.flags b4 true) := by
  have hne : stackAddr s.sp ≠ stackAddr (s.sp - 2#8) := by
    simpa using stackAddr_sub_ne (j := 0#8) (k := 2#8) (by decide) s.sp
  refine ⟨?_, ?_, ?_, fun a h h' h'' => ?_⟩
  · rw [readByte_entered, if_neg hne, readByte_push_push, if_neg (stackAddr_sub_one_ne s.sp).symm, if_pos rfl]
  · rw [readByte_entered, if_neg (stackAddr_sub_ne (by decide) _), readByte_push_push, if_pos rfl]
  · rw [readByte_entered, if_pos rfl]
  · rw [readByte_entered, if_neg h'', readByte_push_push, if_neg h', if_neg h]

/-- An entry with its cost, as the run loop and BRK use it (R270, R285, R286). -/
def entry (vector : Addr) (b4 : Bool) (s : State) : State :=
  settle ((enter vector b4 s).andThen fun _ t => .done 7 t)

section Entry

variable {s t : State} {vector ret : Addr} {b4 : Bool} {flags : Flags}
  (ht : t = { s with pc := ret, flags := flags }) (hpack : pack flags b4 true = pack s.flags b4 true)

include ht hpack

theorem entered_eq : entered b4 t =
    { s with pc := ret, sp := s.sp - 3#8, flags := { flags with i := true }, mem := (entered b4 t).mem,
             bus := s.bus.drop 3, busLog := s.busLog ++ frameWrites s ret (pack s.flags b4 true) } := by
  subst ht
  simp [entered, frameWrites, BitVec.sub_sub, hpack]

theorem frameSaved_entry {u : State} (hu : u.mem = (entered b4 t).mem) : FrameSaved s u ret (pack s.flags b4 true) := by
  have hread (a : Addr) : readByte u a = readByte (entered b4 t) a := by
    rw [readByte, hu, readByte]
  have hframe := frameSaved_entered b4 t
  subst ht
  simp only [FrameSaved, hread, ← hpack]
  exact hframe

/-- A vector lies outside page 1, so the saved frame leaves it (R63). -/
theorem busRead_entered {a : Addr} (ha : 512 ≤ a.toNat) (k : Nat) : busRead (entered b4 t) k a = busRead s (3 + k) a := by
  have hbus : (entered b4 t).bus = s.bus.drop 3 := by
    rw [entered_eq ht hpack]
  obtain ⟨-, -, -, hframe⟩ := frameSaved_entry ht hpack rfl
  exact busRead_of_drop hbus (hframe a (ne_stackAddr ha _) (ne_stackAddr ha _) (ne_stackAddr ha _)) k

omit hpack in
theorem isHalt_entry (a : Addr) : isHalt t a = isHalt s a := by
  rw [ht]
  rfl

theorem entry_done (hpage : 512 ≤ vector.toNat) (hpage' : 512 ≤ (vector + 1#16).toNat) (h : isHalt s vector = false)
    (h' : isHalt s (vector + 1#16) = false) : EntryDone s (entry vector b4 t) vector ret b4 flags := by
  rw [← isHalt_entry ht] at h h'
  rcases enter_cases vector b4 t with ⟨_, _, e⟩ | ⟨hhalts, _⟩ | ⟨_, hhalts, _⟩
  · rw [entry, e, andThen_done, settle_done, busRead_entered ht hpack hpage, busRead_entered ht hpack hpage']
    refine ⟨?_, frameSaved_entry ht hpack rfl⟩
    rw [entered_eq ht hpack]
    simp [withReads]
  · exact absurd (hhalts.symm.trans h) nofun
  · exact absurd (hhalts.symm.trans h') nofun

theorem entry_halted (h : isHalt s vector = true ∨ isHalt s (vector + 1#16) = true) :
    EntryHalted s (entry vector b4 t) vector ret b4 flags := by
  simp only [← isHalt_entry ht] at h
  rw [EntryHalted, ← isHalt_entry ht]
  rcases enter_cases vector b4 t with ⟨hlow, hhigh, _⟩ | ⟨hlow, e⟩ | ⟨hlow, _, e⟩
  · simp [hlow, hhigh] at h
  · rw [entry, e, andThen_halt, settle_halt, hlow]
    refine ⟨?_, frameSaved_entry ht hpack rfl⟩
    rw [entered_eq ht hpack]
    simp [stopRun, logCall]
  · rw [entry, e, andThen_halt, settle_halt, hlow]
    refine ⟨?_, frameSaved_entry ht hpack rfl⟩
    rw [entered_eq ht hpack]
    simp [stopRun, logCall, withReads]

end Entry

/-- Settles O37: BRK is an entry from past its padding byte with B set, and `pack` does not read B. -/
theorem brkTakesTheSoftwareInterrupt : Obligations.BrkTakesTheSoftwareInterrupt := by
  intro s
  have hexec : exec .brk s = .next (entry irqVector true { s with pc := s.pc + 1#16, flags := { s.flags with b := true } }) := rfl
  rw [hexec]
  exact ⟨rfl, fun h h' => ⟨_, rfl, entry_done rfl rfl (by decide) (by decide) h h'⟩, fun h => ⟨_, rfl, entry_halted rfl rfl h⟩⟩

/-- Settles O38, from the two ways each of its pulls can end. -/
theorem rtiRestoresStatusThenProgramCounter : Obligations.RtiRestoresStatusThenProgramCounter := by
  rintro s p q r rfl rfl rfl
  have hexec : exec .rti s = complete ((returnFromInterrupt s).andThen fun _ t => .done 6 t) := rfl
  rw [hexec, returnFromInterrupt, andThen_assoc]
  refine ⟨rfl, fun hp hq hr => ⟨_, a16_toNat _ _, ?allAnswer⟩, fun hp => ?firstHalts, fun hp hq => ?secondHalts,
    fun hp hq hr => ?thirdHalts⟩
  case allAnswer =>
    rw [pull_done_pulled hp, andThen_done, pull_pulled_done (n := 1#8) hq, andThen_done, pull_pulled_done (n := 1#8 + 1#8) hr]
    rfl
  case firstHalts =>
    rw [pull_halt hp]
    rfl
  case secondHalts =>
    rw [pull_done_pulled hp, andThen_done, pull_pulled_halt (n := 1#8) hq]
    simp [complete, haltedWith, stopRun, logCall, withReads]
  case thirdHalts =>
    rw [pull_done_pulled hp, andThen_done, pull_pulled_done (n := 1#8) hq, andThen_done, pull_pulled_halt (n := 1#8 + 1#8) hr]
    simp [complete, haltedWith, stopRun, logCall, withReads]

theorem brk_saves {s u : State} (h : exec .brk s = .next u) :
    u.sp = s.sp - 3#8 ∧ FrameSaved s u (s.pc + 1#16) (pack s.flags true true) := by
  obtain ⟨-, hdone, hhalted⟩ := brkTakesTheSoftwareInterrupt s
  by_cases hvector : isHalt s 0xFFFE#16 = true ∨ isHalt s 0xFFFF#16 = true
  · obtain ⟨u', e, hu, hframe⟩ := hhalted hvector
    obtain rfl : u = u' := Host.Outcome.next.inj (h.symm.trans e)
    exact ⟨congrArg State.sp hu, hframe⟩
  · rw [not_or, Bool.not_eq_true, Bool.not_eq_true] at hvector
    obtain ⟨u', e, hu, hframe⟩ := hdone hvector.1 hvector.2
    obtain rfl : u = u' := Host.Outcome.next.inj (h.symm.trans e)
    exact ⟨congrArg State.sp hu, hframe⟩

theorem storedByte_of_ramBus {s : State} (h : RamBus s) (k : Nat) (a : Addr) (v : Byte) : storedByte s k a v = v :=
  storedByte_of_ram (serviceAt_of_ramBus h k) a v

theorem busRead_of_ramBus {s : State} (h : RamBus s) (k : Nat) (a : Addr) : busRead s k a = readByte s a :=
  busRead_of_ram (serviceAt_of_ramBus h k) a

/-- Settles O40: RTI pulls the three bytes of BRK's frame. -/
theorem brkThenRtiResumesPastThePadding : Obligations.BrkThenRtiResumesPastThePadding := by
  intro s u v hs hv hbrk hsp hstack
  obtain ⟨husp, hhigh, hlow, hstatus, -⟩ := brk_saves hbrk
  rw [storedByte_of_ramBus hs] at hhigh hlow hstatus
  have hvsp : v.sp = s.sp - 3#8 := hsp.trans husp
  obtain ⟨hread0, hhalt0⟩ := hstack 0#8 (by decide)
  obtain ⟨hread1, hhalt1⟩ := hstack 1#8 (by decide)
  obtain ⟨hread2, hhalt2⟩ := hstack 2#8 (by decide)
  rw [BitVec.sub_zero] at hread0 hhalt0
  obtain ⟨-, hdone, -⟩ := rtiRestoresStatusThenProgramCounter v (stackAddr (s.sp - 2#8)) (stackAddr (s.sp - 1#8))
    (stackAddr s.sp) (congrArg stackAddr (by bv_omega)) (congrArg stackAddr (by bv_omega)) (congrArg stackAddr (by bv_omega))
  obtain ⟨pc', hpc, e⟩ := hdone hhalt2 hhalt1 hhalt0
  simp only [busRead_of_ramBus hv, hread0, hread1, hread2, hhigh, hlow, hstatus] at hpc e
  obtain rfl : pc' = s.pc + 1#16 := by
    rw [← a16_lo_hi (s.pc + 1#16)]
    exact BitVec.eq_of_toNat_eq (hpc.trans (a16_toNat _ _).symm)
  have hraised : v.sp + 3#8 = s.sp := by bv_omega
  rw [e, hraised, ← unpack_pack s.flags true true]
  rfl

end Sys2Proof.Machine
end

section
/-! PROOFS, 47_jump_subroutine.md: the round trip of JSR and RTS. -/

namespace Sys2Proof.Machine

open Sys2Proof.Claim

/-- Settles O39: RTS pulls the two bytes that JSR pushed, and adds the one that JSR took off. -/
theorem jsrThenRtsReturnsPastTheJsr : Obligations.JsrThenRtsReturnsPastTheJsr := by
  intro s u v w hs hv hjsr hsp hreadHigh hreadLow hhaltHigh hhaltLow
  obtain ⟨-, u', e, hu, hhigh, hlow, -⟩ := jsrPushesReturnAddressMinusOne w s
  obtain rfl : u = u' := Host.Outcome.next.inj (hjsr.symm.trans e)
  rw [storedByte_of_ramBus hs] at hhigh hlow
  have hvsp : v.sp = s.sp - 2#8 := hsp.trans (congrArg State.sp hu)
  obtain ⟨-, hdone, -⟩ := rtsPullsAndAddsOne v (stackAddr (s.sp - 1#8)) (stackAddr s.sp)
    (congrArg stackAddr (by bv_omega)) (congrArg stackAddr (by bv_omega))
  obtain ⟨pc', hpc, e'⟩ := hdone hhaltLow hhaltHigh
  rw [busRead_of_ramBus hv, busRead_of_ramBus hv, hreadHigh, hreadLow, hhigh, hlow, ← a16_add_one_toNat, a16_lo_hi,
    BitVec.sub_add_cancel] at hpc
  have hraised : v.sp + 2#8 = s.sp := by bv_omega
  rw [e', hraised, BitVec.eq_of_toNat_eq hpc]

end Sys2Proof.Machine
end

section
/-! PROOFS, 10_state.md section 5: what each operation of the caller does, and the statement about the caller. -/

namespace Sys2Proof.Machine

theorem Flags.get_set (f : Flags) (k j : Flag) (v : Bool) : (f.set k v).get j = if j = k then v else f.get j := by
  split
  · next h =>
    subst h
    cases j <;> rfl
  · next h => exact Flags.get_set_of_ne h f v

/-- Settles O58, from what each operation does with the state the caller finds. -/
theorem theCallerActsOnlyOnAHaltedCore : Obligations.TheCallerActsOnlyOnAHaltedCore := by
  refine fun s s' c cs => ⟨fun hrun t h => ?running, fun hrun hcalls => ?idle, fun hrun hcalls hs' => ?_⟩
  case running =>
    obtain ⟨-, -, -, hcalls⟩ := eachStepOfARunCostsTwoToSevenOrEndsIt s t hrun h
    exact hcalls
  case idle => rw [step_halted hrun, callerStep_nil hcalls]
  subst hs'
  have hstep : step s = .next (perform c { s with calls := cs, busLog := [] }) := by
    rw [step_halted hrun, callerStep_cons hcalls]
  rw [hstep]
  refine ⟨?run, ?setPc, ?setReg, ?setFlag⟩
  case run =>
    rintro budget cyc irq nmi rfl
    rfl
  case setPc =>
    rintro v rfl
    rfl
  case setReg =>
    rintro r v rfl
    exact ⟨_, rfl, by cases r <;> rfl, fun r' => getReg_setReg r r' v _⟩
  case setFlag =>
    rintro f b rfl
    exact ⟨_, rfl, rfl, fun f' => Flags.get_set s.flags f f' b⟩

end Sys2Proof.Machine
end

section
/-! PROOFS, 60_exceptions.md sections 1 and 2: the three ways past an unexhausted budget, and the statements about the interrupts. -/

namespace Sys2Proof.Machine

open Sys2Proof.Claim

theorem sampleInputs_eq (s : State) : sampleInputs { s with busLog := [] } =
    { sampled s [] with nmiPending := s.nmiPending || s.nmiEdge.headD false } := rfl

theorem sampleInputs_eq_sampled {s : State} (hedge : s.nmiEdge.headD false = false) :
    sampleInputs { s with busLog := [] } = sampled s [] := by
  rw [sampleInputs_eq, hedge, Bool.or_false]
  rfl

section Boundary

variable {s : State} (hrun : s.run = .running) (hbudget : s.cyc < s.budget)

include hrun hbudget

theorem step_nmi (hnmi : s.nmiPending = true ∨ s.nmiEdge.headD false = true) :
    step s = .next (nmiEntry { sampled s [] with nmiPending := true }) := by
  have hpending : (s.nmiPending || s.nmiEdge.headD false) = true := by
    simpa using hnmi
  refine step_over hrun ?_
  rw [boundary, if_neg (Nat.not_le.mpr hbudget), sampleInputs_eq, hpending]
  rfl

variable (hpending : s.nmiPending = false) (hedge : s.nmiEdge.headD false = false)

include hpending hedge

theorem step_irq (hirq : s.irqLine.headD false = true) (hi : s.flags.i = false) :
    step s = .next (irqEntry (sampled s [])) := by
  have hnone : ¬(sampled s []).nmiPending = true := Bool.eq_false_iff.mp hpending
  have htaken : (irqLevel { s with busLog := [] } && !s.flags.i) = true := by
    rw [irqLevel, hirq, hi]
    rfl
  refine step_over hrun ?_
  rw [boundary, if_neg (Nat.not_le.mpr hbudget), sampleInputs_eq_sampled hedge, if_neg hnone, if_pos htaken]

theorem step_fetches (hirq : s.irqLine.headD false = false ∨ s.flags.i = true) : step s = fetchStep (sampled s []) := by
  have hnone : ¬(sampled s []).nmiPending = true := Bool.eq_false_iff.mp hpending
  have hmasked : ¬(irqLevel { s with busLog := [] } && !s.flags.i) = true := by
    rcases hirq with hirq | hi
    · rw [irqLevel, hirq]
      exact Bool.false_ne_true
    · rw [hi, Bool.not_true, Bool.and_false]
      exact Bool.false_ne_true
  refine step_fetch hrun ?_
  rw [boundary, if_neg (Nat.not_le.mpr hbudget), sampleInputs_eq_sampled hedge, if_neg hnone, if_neg hmasked]

end Boundary

theorem Quiet.step_eq {s : State} (h : Quiet s) : step s = fetchStep (sampled s []) := by
  obtain ⟨hrun, hbudget, hpending, hedge, hirq⟩ := h
  exact step_fetches hrun hbudget hpending hedge hirq

/-- Settles O54: the step is an entry through the NMI vector from the sampled state with the latch cleared. -/
theorem anNmiIsTakenBeforeAnIrqAndWhateverIIs : Obligations.AnNmiIsTakenBeforeAnIrqAndWhateverIIs := by
  rintro s s' hrun hbudget hnmi rfl
  have hstep : step s = .next (entry nmiVector false { sampled s [] with nmiPending := false }) := step_nmi hrun hbudget hnmi
  rw [hstep]
  exact ⟨fun h h' => ⟨_, rfl, entry_done rfl rfl (by decide) (by decide) h h'⟩, fun h => ⟨_, rfl, entry_halted rfl rfl h⟩⟩

/-- Settles O55: the step is an entry through the IRQ vector from the sampled state, or the fetch. -/
theorem anIrqIsTakenOnlyWithIClear : Obligations.AnIrqIsTakenOnlyWithIClear := by
  refine fun s hrun hbudget hpending hedge => ⟨fun hirq hi => ?_, step_fetches hrun hbudget hpending hedge⟩
  have hstep : step s = .next (entry irqVector false (sampled s [])) := step_irq hrun hbudget hpending hedge hirq hi
  rw [hstep]
  exact ⟨fun h h' => ⟨_, rfl, entry_done rfl rfl (by decide) (by decide) h h'⟩, fun h => ⟨_, rfl, entry_halted rfl rfl h⟩⟩

theorem perform_nmiPending {c : Call} (hc : c ≠ .reset) (s : State) : (perform c s).nmiPending = s.nmiPending := by
  cases c with
  | setReg r v => cases r <;> rfl
  | reset => exact absurd rfl hc
  | _ => rfl

/-- Settles O49: a run that stops at its budget keeps the latch, one that does not enters the NMI, and of the caller's operations only
Reset writes it. -/
theorem nmiPendingIsClearedOnlyByEntryOrReset : Obligations.NmiPendingIsClearedOnlyByEntryOrReset := by
  refine fun s t h => ⟨fun hrun hbudget hedge _ => ?_, fun hset hclear => ?_⟩
  · exact Host.Outcome.next.inj (h.symm.trans (step_nmi hrun hbudget (.inr hedge)))
  cases hrun : s.run with
  | running =>
    refine .inl ⟨rfl, ?_⟩
    rcases Nat.lt_or_ge s.cyc s.budget with hbudget | hbudget
    · refine ⟨hbudget, ?_⟩
      have hsampled : { sampled s [] with nmiPending := true } = sampled s [] := by
        rw [← hset]
        rfl
      rw [← hsampled]
      exact Host.Outcome.next.inj (h.symm.trans (step_nmi hrun hbudget (.inl hset)))
    · obtain rfl := Host.Outcome.next.inj (h.symm.trans (anExhaustedBudgetStopsBeforeAnythingElse s hrun hbudget))
      exact absurd (hset.symm.trans hclear) nofun
  | halted =>
    refine .inr ⟨rfl, ?_⟩
    obtain rfl := Host.Outcome.next.inj (h.symm.trans (step_halted hrun))
    cases hcalls : s.calls with
    | nil =>
      rw [callerStep_nil hcalls] at hclear
      exact absurd (hset.symm.trans hclear) nofun
    | cons c cs =>
      by_cases hc : c = .reset
      · rw [hc]
        rfl
      · rw [callerStep_cons hcalls, perform_nmiPending hc] at hclear
        exact absurd (hset.symm.trans hclear) nofun

end Sys2Proof.Machine
end

section
/-! PROOFS, 40_execution.md sections 1 to 3: the operand fetch by its number of bytes, the fetch as a whole, and the statements about
a step with nothing to take at the boundary. -/

namespace Sys2Proof.Machine

open Sys2Proof.Claim

theorem addr_add_one_add_one (a : Addr) : a + 1#16 + 1#16 = a + 2#16 := BitVec.add_assoc a 1#16 1#16

section Operands

variable {m : Mode} {s : State}

theorem fetchOperands_none (hm : m.operandBytes = 0) : fetchOperands m s = .done [] s := by
  cases m with
  | implied | accumulator => rfl
  | _ => cases hm

theorem fetchOperands_one (hm : m.operandBytes = 1) (h : isHalt s s.pc = false) :
    fetchOperands m s = .done [busRead s 0 s.pc] (fetched s [s.pc] (s.pc + 1#16)) := by
  cases m with
  | immediate =>
    have h' : isHalt { s with pc := s.pc + 1#16 } s.pc = false := h
    rw [fetchOperands, memRead_done h']
    rfl
  | zeroPage | zeroPageX | zeroPageY | indirectX | indirectY | relative =>
    rw [fetchOperands, fetchByte_done h]
    rfl
  | _ => cases hm

/-- The byte of the immediate mode is read with PC past it (R106). -/
theorem fetchOperands_one_halt (hm : m.operandBytes = 1) (h : isHalt s s.pc = true) : fetchOperands m s =
    .halt (logCall (.read s.pc) { s with pc := if m = .immediate then s.pc + 1#16 else s.pc }) := by
  cases m with
  | immediate =>
    have h' : isHalt { s with pc := s.pc + 1#16 } s.pc = true := h
    rw [fetchOperands, memRead_halt h']
    rfl
  | zeroPage | zeroPageX | zeroPageY | indirectX | indirectY | relative =>
    rw [fetchOperands, fetchByte_halt h]
    rfl
  | _ => cases hm

theorem fetchOperands_two (hm : m.operandBytes = 2) : fetchOperands m s =
    (fetchByte s).andThen fun l t => (fetchByte t).andThen fun h u => .done [l, h] u := by
  cases m with
  | absolute | absoluteX | absoluteY | indirect => rfl
  | _ => cases hm

theorem fetchOperands_two_done (hm : m.operandBytes = 2) (h : isHalt s s.pc = false) (h' : isHalt s (s.pc + 1#16) = false) :
    fetchOperands m s = .done [busRead s 0 s.pc, busRead s 1 (s.pc + 1#16)]
      (fetched s [s.pc, s.pc + 1#16] (s.pc + 2#16)) := by
  have hsecond : isHalt (fetched s [s.pc] (s.pc + 1#16)) (s.pc + 1#16) = false := h'
  have hread : busRead (fetched s [s.pc] (s.pc + 1#16)) 0 (s.pc + 1#16) = busRead s 1 (s.pc + 1#16) :=
    withReads_busRead s [s.pc] 0 (s.pc + 1#16)
  have hfetch : fetchByte (fetched s [s.pc] (s.pc + 1#16)) =
      .done (busRead s 1 (s.pc + 1#16)) (fetched s [s.pc, s.pc + 1#16] (s.pc + 2#16)) := by
    refine (fetchByte_done hsecond).trans ?_
    rw [← hread, ← addr_add_one_add_one]
    simp [fetched, withReads]
  rw [fetchOperands_two hm, fetchByte_done h, andThen_done]
  exact congrArg (Access.andThen · _) hfetch

theorem fetchOperands_two_halt_low (hm : m.operandBytes = 2) (h : isHalt s s.pc = true) :
    fetchOperands m s = .halt (logCall (.read s.pc) s) := by
  rw [fetchOperands_two hm, fetchByte_halt h, andThen_halt]

theorem fetchOperands_two_halt_high (hm : m.operandBytes = 2) (h : isHalt s s.pc = false)
    (h' : isHalt s (s.pc + 1#16) = true) :
    fetchOperands m s = .halt (logCall (.read (s.pc + 1#16)) (fetched s [s.pc] (s.pc + 1#16))) := by
  have hsecond : isHalt (fetched s [s.pc] (s.pc + 1#16)) (s.pc + 1#16) = true := h'
  rw [fetchOperands_two hm, fetchByte_done h, andThen_done]
  exact congrArg (Access.andThen · _) (fetchByte_halt hsecond)

end Operands

section Fetch

variable {s t : State} {m : Mode} {i : Instr}

/-- The state after the opcode fetch (R100). -/
def opcodeFetched (s : State) : State := fetched s [s.pc] (s.pc + 1#16)

theorem fetchStep_opcode_halt (h : isHalt s s.pc = true) :
    fetchStep s = .next (stopRun .halted (logCall (.read s.pc) s)) := by
  rw [fetchStep, fetchInstr, fetchByte_halt h, andThen_halt]

theorem fetchStep_illegal (h : isHalt s s.pc = false) (hop : opcodeMode (busRead s 0 s.pc) = none) :
    fetchStep s = .next (illegalStop (busRead s 0 s.pc) (opcodeFetched s)) := by
  rw [fetchStep, fetchInstr, fetchByte_done h, andThen_done, hop]
  rfl

theorem fetchStep_operand_halt (h : isHalt s s.pc = false) (hop : opcodeMode (busRead s 0 s.pc) = some m)
    (hoperands : fetchOperands m (opcodeFetched s) = .halt t) : fetchStep s = .next (stopRun .halted t) := by
  have hfetch : fetchInstr s = .halt t := by
    rw [fetchInstr, fetchByte_done h, andThen_done, hop]
    exact congrArg (Access.andThen · _) hoperands
  rw [fetchStep, hfetch]

theorem fetchStep_instr {operands rest : List Byte} (h : isHalt s s.pc = false)
    (hoperands : fetchOperands i.mode (opcodeFetched s) = .done operands t)
    (hdecode : decode (busRead s 0 s.pc :: operands) = .ok (i, rest)) : fetchStep s = exec i t := by
  obtain ⟨op, operands', hbytes, hlen, htable⟩ := operands_of_decode hdecode
  have hop : opcodeMode (busRead s 0 s.pc) = some i.mode := by
    obtain ⟨rfl, -⟩ := List.cons.inj hbytes
    exact opcodeMode_of_assemble htable
  have hfetch : fetchInstr s = .done (.instr i) t := by
    rw [fetchInstr, fetchByte_done h, andThen_done, hop]
    refine (congrArg (Access.andThen · _) hoperands).trans ?_
    rw [andThen_done, hdecode]
  rw [fetchStep, hfetch]

end Fetch

/-- Settles O52: PC goes back over the opcode, so of the opcode fetch only the bus call is left. -/
theorem anIllegalOpcodeStopsTheRun : Obligations.AnIllegalOpcodeStopsTheRun := by
  intro s hquiet h hillegal
  obtain ⟨hlist, -⟩ := opcode_lists (busRead s 0 s.pc)
  rw [Quiet.step_eq hquiet, fetchStep_illegal (s := sampled s []) h (hlist.mp hillegal)]
  have hpc : s.pc + 1#16 - 1#16 = s.pc := BitVec.add_sub_cancel s.pc 1#16
  have hop : busRead (sampled s []) 0 s.pc = busRead s 0 s.pc := rfl
  simp [illegalStop, opcodeFetched, fetched, withReads, sampled, stopRun, hpc, ← hop]

/-- Settles O51: the halting byte ends the fetch, which has moved PC over the bytes before it, and in the immediate mode
over the operand too. -/
theorem aHaltedFetchLeavesPcAtTheByte : Obligations.AHaltedFetchLeavesPcAtTheByte := by
  intro s m hquiet
  rw [Quiet.step_eq hquiet]
  refine ⟨fun h => ?opcode, fun h hop hbytes hhalt => ?first, fun h hop hbytes hfirst hhalt => ?second⟩
  case opcode => exact fetchStep_opcode_halt (s := sampled s []) h
  case first =>
    have hle := m.operandBytes_le_two
    obtain hone | htwo : m.operandBytes = 1 ∨ m.operandBytes = 2 := by omega
    · rw [fetchStep_operand_halt (s := sampled s []) h hop (fetchOperands_one_halt hone hhalt)]
      simp [opcodeFetched, fetched, withReads, sampled, haltedWith, stopRun, logCall, addr_add_one_add_one]
    · have hmode : m ≠ .immediate := by
        rintro rfl
        cases htwo
      rw [fetchStep_operand_halt (s := sampled s []) h hop (fetchOperands_two_halt_low htwo hhalt)]
      simp [opcodeFetched, fetched, withReads, sampled, haltedWith, stopRun, logCall, hmode]
  case second =>
    rw [← addr_add_one_add_one] at hhalt ⊢
    rw [fetchStep_operand_halt (s := sampled s []) h hop (fetchOperands_two_halt_high hbytes hfirst hhalt)]
    simp [opcodeFetched, fetched, withReads, sampled, haltedWith, stopRun, logCall]

/-- The operand fetch after the opcode fetch, where no byte halts (R103). -/
theorem fetchOperands_opcodeFetched {s : State} {m : Mode} {op : Byte} {operands rest : List Byte}
    (hbytes : [busRead s 0 s.pc, busRead s 1 (s.pc + 1#16), busRead s 2 (s.pc + 2#16)] = op :: operands ++ rest)
    (hlen : operands.length = m.operandBytes)
    (h : ∀ k, k < 1 + m.operandBytes → isHalt s (s.pc + BitVec.ofNat 16 k) = false) :
    fetchOperands m (opcodeFetched s) = .done operands
      (fetched s ((List.range (1 + m.operandBytes)).map fun k => s.pc + BitVec.ofNat 16 k)
        (s.pc + BitVec.ofNat 16 (1 + m.operandBytes))) := by
  rw [← hlen] at h ⊢
  have hlow : busRead (opcodeFetched s) 0 (s.pc + 1#16) = busRead s 1 (s.pc + 1#16) :=
    withReads_busRead s [s.pc] 0 (s.pc + 1#16)
  have hhigh : busRead (opcodeFetched s) 1 (s.pc + 1#16 + 1#16) = busRead s 2 (s.pc + 2#16) := by
    rw [addr_add_one_add_one]
    exact withReads_busRead s [s.pc] 1 (s.pc + 2#16)
  match operands with
  | [] =>
    rw [fetchOperands_none hlen.symm]
    simp [opcodeFetched]
  | [x] =>
    simp only [List.cons_append, List.cons.injEq] at hbytes
    obtain ⟨-, hx, -⟩ := hbytes
    have h1 : isHalt (opcodeFetched s) (s.pc + 1#16) = false := h 1 (by simp)
    rw [fetchOperands_one hlen.symm h1, ← hx, ← hlow]
    simp [opcodeFetched, fetched, withReads, List.range_succ, addr_add_one_add_one]
  | [x, y] =>
    simp only [List.cons_append, List.cons.injEq] at hbytes
    obtain ⟨-, hx, hy, -⟩ := hbytes
    have h1 : isHalt (opcodeFetched s) (s.pc + 1#16) = false := h 1 (by simp)
    have h2 : isHalt (opcodeFetched s) (s.pc + 1#16 + 1#16) = false := by
      rw [addr_add_one_add_one]
      exact h 2 (by simp)
    rw [fetchOperands_two_done hlen.symm h1 h2, ← hx, ← hy, ← hlow, ← hhigh]
    simp [opcodeFetched, fetched, withReads, List.range_succ, BitVec.add_assoc]
  | _ :: _ :: _ :: _ =>
    have hle := m.operandBytes_le_two
    simp only [List.length_cons] at hlen
    omega

/-- Settles O50: the fetch leaves the decoded instruction and the state that the statement writes out. -/
theorem aStepRunsTheDecodedInstruction : Obligations.AStepRunsTheDecodedInstruction := by
  intro s i rest hquiet hdecode hhalt
  obtain ⟨op, operands, hbytes, hlen, htable⟩ := operands_of_decode hdecode
  obtain ⟨hop, -⟩ := List.cons.inj hbytes
  have hagain : decode (op :: operands) = .ok (i, []) := by
    simpa using decode_of_assemble hlen htable []
  have hpc : isHalt s s.pc = false := by
    simpa using hhalt 0 (Nat.lt_of_lt_of_le Nat.zero_lt_one (Nat.le_add_right 1 _))
  have hfetch := fetchOperands_opcodeFetched (s := sampled s []) hbytes hlen hhalt
  rw [Quiet.step_eq hquiet, fetchStep_instr (s := sampled s []) hpc hfetch (hop ▸ hagain)]
  congr 1
  simp [fetched, withReads, sampled, Instr.length]

end Sys2Proof.Machine
end
